-- ==== Sys2Proof/Word.lean ====
section
/-! DEFINITION. The word types of the CHIP-8 CORE (spec 00_scope.md R8-R10): every value is unsigned. -/

namespace Sys2Proof

/-- An 8-bit cell: a byte of memory, a general register, a timer (10_state.md R30). -/
abbrev Byte := BitVec 8

/-- A 16-bit word: an opcode, PC, I, a stack entry (10_state.md R30). -/
abbrev Word := BitVec 16

/-- A 12-bit address immediate NNN (30_encoding.md R91). -/
abbrev Addr := BitVec 12

/-- A 4-bit nibble immediate N (30_encoding.md R91). -/
abbrev Nibble := BitVec 4

/-- The number of a general register V0-VF (10_state.md R31). -/
abbrev Reg := Fin 16

/-- VF, the register that is also the flag (10_state.md R32). -/
abbrev Reg.vf : Reg := 15

end Sys2Proof
end

