-- ==== Sys2Proof/Syntax.lean ====
section
/-! DEFINITION. The 35 instructions, one constructor per row of spec/opcode_table.json (30_encoding.md R97), in the
table's order. A constructor's arguments are the numeric fields its row declares (R94): x and y are register numbers,
nn a byte, nnn an address, n a nibble (00_scope.md R13). -/

namespace Sys2Proof

/-- A decoded instruction: the row's identity and its extracted numeric fields (30_encoding.md R94). -/
inductive Instr where
  /-- Row 1, CLS: clear the display. -/
  | cls
  /-- Row 2, RET: return from a subroutine. -/
  | ret
  /-- Row 3, SYS_ADDR: the 35th entry (D1). -/
  | sysAddr (nnn : Addr)
  /-- Row 4, JP_ADDR: jump. -/
  | jpAddr (nnn : Addr)
  /-- Row 5, CALL_ADDR: call a subroutine. -/
  | callAddr (nnn : Addr)
  /-- Row 6, SE_VX_NN: skip if equal. -/
  | seVxNn (x : Reg) (nn : Byte)
  /-- Row 7, SNE_VX_NN: skip if different. -/
  | sneVxNn (x : Reg) (nn : Byte)
  /-- Row 8, SE_VX_VY: skip if equal. -/
  | seVxVy (x y : Reg)
  /-- Row 9, LD_VX_NN: load a byte. -/
  | ldVxNn (x : Reg) (nn : Byte)
  /-- Row 10, ADD_VX_NN: add a byte, no flag. -/
  | addVxNn (x : Reg) (nn : Byte)
  /-- Row 11, LD_VX_VY: copy a register. -/
  | ldVxVy (x y : Reg)
  /-- Row 12, OR_VX_VY. -/
  | orVxVy (x y : Reg)
  /-- Row 13, AND_VX_VY. -/
  | andVxVy (x y : Reg)
  /-- Row 14, XOR_VX_VY. -/
  | xorVxVy (x y : Reg)
  /-- Row 15, ADD_VX_VY: add with carry in VF. -/
  | addVxVy (x y : Reg)
  /-- Row 16, SUB_VX_VY: Vx - Vy. -/
  | subVxVy (x y : Reg)
  /-- Row 17, SHR_VX_VY: shift Vx right. The field y is decoded and not read. -/
  | shrVxVy (x y : Reg)
  /-- Row 18, SUBN_VX_VY: Vy - Vx. -/
  | subnVxVy (x y : Reg)
  /-- Row 19, SHL_VX_VY: shift Vx left. The field y is decoded and not read. -/
  | shlVxVy (x y : Reg)
  /-- Row 20, SNE_VX_VY: skip if different. -/
  | sneVxVy (x y : Reg)
  /-- Row 21, LD_I_ADDR: load I. -/
  | ldIAddr (nnn : Addr)
  /-- Row 22, JP_V0_ADDR: jump to V0 + nnn. -/
  | jpV0Addr (nnn : Addr)
  /-- Row 23, RND_VX_NN: a random byte and nn. -/
  | rndVxNn (x : Reg) (nn : Byte)
  /-- Row 24, DRW_VX_VY_N: draw an n-byte sprite. -/
  | drwVxVyN (x y : Reg) (n : Nibble)
  /-- Row 25, SKP_VX: skip if the key is pressed. -/
  | skpVx (x : Reg)
  /-- Row 26, SKNP_VX: skip if the key is not pressed. -/
  | sknpVx (x : Reg)
  /-- Row 27, LD_VX_DT: read the delay timer. -/
  | ldVxDt (x : Reg)
  /-- Row 28, LD_VX_N: the key wait, which has no N field (90_conflicts.md C6). -/
  | ldVxN (x : Reg)
  /-- Row 29, LD_DT_VX: write the delay timer. -/
  | ldDtVx (x : Reg)
  /-- Row 30, LD_ST_VX: write the sound timer. -/
  | ldStVx (x : Reg)
  /-- Row 31, ADD_I_VX: add to I. -/
  | addIVx (x : Reg)
  /-- Row 32, LD_F_VX: point I at a glyph. -/
  | ldFVx (x : Reg)
  /-- Row 33, LD_B_VX: store the decimal digits. -/
  | ldBVx (x : Reg)
  /-- Row 34, LD_I_VX: store V0 to Vx. -/
  | ldIVx (x : Reg)
  /-- Row 35, LD_VX_I: load V0 to Vx. -/
  | ldVxI (x : Reg)
deriving DecidableEq, Repr

end Sys2Proof
end

