-- ==== Sys2Proof/WellFormed.lean ====
section
/-! DEFINITION. Which terms of Instr some opcode decodes to. The operand types already hold every field to its width
(30_encoding.md R91), so the one check left is the table's order: 0x00E0 and 0x00EE match the rows of CLS and RET
before that of SYS_ADDR (R98), so no opcode decodes to SYS_ADDR with those two addresses. -/

namespace Sys2Proof

/-- SYS_ADDR takes every class-0 opcode but 0x00E0 and 0x00EE (41_flow.md R170). -/
def sysAddrAllowed (nnn : Addr) : Bool := nnn != 0x0E0 && nnn != 0x0EE

/-- An instruction that some opcode stands for. -/
def Instr.wf : Instr → Bool
  | .cls => true
  | .ret => true
  | .sysAddr nnn => sysAddrAllowed nnn
  | .jpAddr _ => true
  | .callAddr _ => true
  | .seVxNn _ _ => true
  | .sneVxNn _ _ => true
  | .seVxVy _ _ => true
  | .ldVxNn _ _ => true
  | .addVxNn _ _ => true
  | .ldVxVy _ _ => true
  | .orVxVy _ _ => true
  | .andVxVy _ _ => true
  | .xorVxVy _ _ => true
  | .addVxVy _ _ => true
  | .subVxVy _ _ => true
  | .shrVxVy _ _ => true
  | .subnVxVy _ _ => true
  | .shlVxVy _ _ => true
  | .sneVxVy _ _ => true
  | .ldIAddr _ => true
  | .jpV0Addr _ => true
  | .rndVxNn _ _ => true
  | .drwVxVyN _ _ _ => true
  | .skpVx _ => true
  | .sknpVx _ => true
  | .ldVxDt _ => true
  | .ldVxN _ => true
  | .ldDtVx _ => true
  | .ldStVx _ => true
  | .addIVx _ => true
  | .ldFVx _ => true
  | .ldBVx _ => true
  | .ldIVx _ => true
  | .ldVxI _ => true

end Sys2Proof
end

