-- ==== Sys2Proof/Decode.lean ====
section
/-! DEFINITION. The opcode table as data, the first-match decoder over it, the equivalent hardware decoder, and the
encoder (30_encoding.md R90-R103). PRESUMED unsafe (log entry 3): every mask, pattern, field position and the order of
the rows is the standard CHIP-8 encoding, adopted by the spec as D2 from general knowledge. -/

namespace Sys2Proof

/-! ### Fields (R91, R92) -/

/-- Argument extraction, `(opcode AND argument_mask) >> argument_shift` (R92). -/
def extract (o mask : Word) (shift : Nat) : Word := (o &&& mask) >>> shift

/-- Field x, bits 11-8 (R91). -/
def fieldX (o : Word) : Reg := Fin.ofNat 16 (extract o 0x0F00 8).toNat

/-- Field y, bits 7-4 (R91). -/
def fieldY (o : Word) : Reg := Fin.ofNat 16 (extract o 0x00F0 4).toNat

/-- Field n, bits 3-0 (R91). -/
def fieldN (o : Word) : Nibble := (extract o 0x000F 0).setWidth 4

/-- Field nn, bits 7-0 (R91). -/
def fieldNn (o : Word) : Byte := (extract o 0x00FF 0).setWidth 8

/-- Field nnn, bits 11-0 (R91). -/
def fieldNnn (o : Word) : Addr := (extract o 0x0FFF 0).setWidth 12

/-! ### The opcode table (R97) -/

/-- One entry of the opcode table: its mask, its pattern and the instruction it makes of a matching opcode (R97). -/
structure TableRow where
  mask : Word
  pattern : Word
  build : Word → Instr

/-- Rows 1-10 of R97. -/
def opcodeRows1 : List TableRow :=
  [
    ⟨0xFFFF, 0x00E0, fun _ => .cls⟩,
    ⟨0xFFFF, 0x00EE, fun _ => .ret⟩,
    ⟨0xF000, 0x0000, fun o => .sysAddr (fieldNnn o)⟩,
    ⟨0xF000, 0x1000, fun o => .jpAddr (fieldNnn o)⟩,
    ⟨0xF000, 0x2000, fun o => .callAddr (fieldNnn o)⟩,
    ⟨0xF000, 0x3000, fun o => .seVxNn (fieldX o) (fieldNn o)⟩,
    ⟨0xF000, 0x4000, fun o => .sneVxNn (fieldX o) (fieldNn o)⟩,
    ⟨0xF00F, 0x5000, fun o => .seVxVy (fieldX o) (fieldY o)⟩,
    ⟨0xF000, 0x6000, fun o => .ldVxNn (fieldX o) (fieldNn o)⟩,
    ⟨0xF000, 0x7000, fun o => .addVxNn (fieldX o) (fieldNn o)⟩ ]

/-- Rows 11-20 of R97. -/
def opcodeRows2 : List TableRow :=
  [
    ⟨0xF00F, 0x8000, fun o => .ldVxVy (fieldX o) (fieldY o)⟩,
    ⟨0xF00F, 0x8001, fun o => .orVxVy (fieldX o) (fieldY o)⟩,
    ⟨0xF00F, 0x8002, fun o => .andVxVy (fieldX o) (fieldY o)⟩,
    ⟨0xF00F, 0x8003, fun o => .xorVxVy (fieldX o) (fieldY o)⟩,
    ⟨0xF00F, 0x8004, fun o => .addVxVy (fieldX o) (fieldY o)⟩,
    ⟨0xF00F, 0x8005, fun o => .subVxVy (fieldX o) (fieldY o)⟩,
    ⟨0xF00F, 0x8006, fun o => .shrVxVy (fieldX o) (fieldY o)⟩,
    ⟨0xF00F, 0x8007, fun o => .subnVxVy (fieldX o) (fieldY o)⟩,
    ⟨0xF00F, 0x800E, fun o => .shlVxVy (fieldX o) (fieldY o)⟩,
    ⟨0xF00F, 0x9000, fun o => .sneVxVy (fieldX o) (fieldY o)⟩ ]

/-- Rows 21-35 of R97. -/
def opcodeRows3 : List TableRow :=
  [
    ⟨0xF000, 0xA000, fun o => .ldIAddr (fieldNnn o)⟩,
    ⟨0xF000, 0xB000, fun o => .jpV0Addr (fieldNnn o)⟩,
    ⟨0xF000, 0xC000, fun o => .rndVxNn (fieldX o) (fieldNn o)⟩,
    ⟨0xF000, 0xD000, fun o => .drwVxVyN (fieldX o) (fieldY o) (fieldN o)⟩,
    ⟨0xF0FF, 0xE09E, fun o => .skpVx (fieldX o)⟩,
    ⟨0xF0FF, 0xE0A1, fun o => .sknpVx (fieldX o)⟩,
    ⟨0xF0FF, 0xF007, fun o => .ldVxDt (fieldX o)⟩,
    ⟨0xF0FF, 0xF00A, fun o => .ldVxN (fieldX o)⟩,
    ⟨0xF0FF, 0xF015, fun o => .ldDtVx (fieldX o)⟩,
    ⟨0xF0FF, 0xF018, fun o => .ldStVx (fieldX o)⟩,
    ⟨0xF0FF, 0xF01E, fun o => .addIVx (fieldX o)⟩,
    ⟨0xF0FF, 0xF029, fun o => .ldFVx (fieldX o)⟩,
    ⟨0xF0FF, 0xF033, fun o => .ldBVx (fieldX o)⟩,
    ⟨0xF0FF, 0xF055, fun o => .ldIVx (fieldX o)⟩,
    ⟨0xF0FF, 0xF065, fun o => .ldVxI (fieldX o)⟩ ]

/-- The 35 entries in their declared order (R97). -/
def opcodeTable : List TableRow := opcodeRows1 ++ opcodeRows2 ++ opcodeRows3

/-- `(opcode AND mask) == pattern` (R95). -/
def TableRow.matches (e : TableRow) (o : Word) : Bool := o &&& e.mask == e.pattern

/-! ### Decoding (R95, R96) -/

/-- Why bytes do not decode. -/
inductive DecodeError where
  /-- No entry of the opcode table matches the opcode (R96). -/
  | lookupError (opcode : Word)
  /-- Fewer than the two bytes of an opcode are given (R90). -/
  | truncated
deriving DecidableEq, Repr

/-- The first entry of a table that matches (R95, "first-match, not best-match"). -/
def firstMatch (table : List TableRow) (o : Word) : Option TableRow := table.find? (·.matches o)

/-- `disassemble(opcode)` (R95): the instruction of the first matching entry, or the lookup error (R96). -/
def disassemble (o : Word) : Except DecodeError Instr :=
  match firstMatch opcodeTable o with
  | some e => .ok (e.build o)
  | none => .error (.lookupError o)

/-- The big-endian opcode of two consecutive bytes (20_memory.md R63). -/
def wordOfBytes (hi lo : Byte) : Word := (hi.setWidth 16 <<< 8) ||| lo.setWidth 16

/-- The byte stored at the lower address: opcode bits 15-8 (20_memory.md R63). -/
def highByte (o : Word) : Byte := (o >>> 8).setWidth 8

/-- The byte stored at the higher address: opcode bits 7-0 (20_memory.md R63). -/
def lowByte (o : Word) : Byte := o.setWidth 8

/-- The instruction at the head of a byte sequence and the bytes after it. Every instruction is two bytes (R90). -/
def decode : List Byte → Except DecodeError (Instr × List Byte)
  | hi :: lo :: rest =>
    match disassemble (wordOfBytes hi lo) with
    | .ok i => .ok (i, rest)
    | .error e => .error e
  | _ => .error .truncated

/-- The opcode that the low nbits bits of w stand for, bit 0 the least significant of the one word. -/
def tableWord (nbits w : Nat) : Word := BitVec.ofNat 16 (w % 2 ^ nbits)

/-- The decoder on one word of the opcode table, laid out in memory order (20_memory.md R63). -/
def decodeTableWord (nbits w : Nat) : Option Instr :=
  match decode [highByte (tableWord nbits w), lowByte (tableWord nbits w)] with
  | .ok (i, _) => some i
  | .error _ => none

/-! ### The equivalent hardware decoder (R103) -/

/-- Class 0x8 of R103, by `opcode[3:0]`. -/
def decodeClass8 (o : Word) : Option Instr :=
  match (fieldN o).toNat with
  | 0x0 => some (.ldVxVy (fieldX o) (fieldY o))
  | 0x1 => some (.orVxVy (fieldX o) (fieldY o))
  | 0x2 => some (.andVxVy (fieldX o) (fieldY o))
  | 0x3 => some (.xorVxVy (fieldX o) (fieldY o))
  | 0x4 => some (.addVxVy (fieldX o) (fieldY o))
  | 0x5 => some (.subVxVy (fieldX o) (fieldY o))
  | 0x6 => some (.shrVxVy (fieldX o) (fieldY o))
  | 0x7 => some (.subnVxVy (fieldX o) (fieldY o))
  | 0xE => some (.shlVxVy (fieldX o) (fieldY o))
  | _ => none

/-- Class 0xF of R103, by `opcode[7:0]`. -/
def decodeClassF (o : Word) : Option Instr :=
  match (fieldNn o).toNat with
  | 0x07 => some (.ldVxDt (fieldX o))
  | 0x0A => some (.ldVxN (fieldX o))
  | 0x15 => some (.ldDtVx (fieldX o))
  | 0x18 => some (.ldStVx (fieldX o))
  | 0x1E => some (.addIVx (fieldX o))
  | 0x29 => some (.ldFVx (fieldX o))
  | 0x33 => some (.ldBVx (fieldX o))
  | 0x55 => some (.ldIVx (fieldX o))
  | 0x65 => some (.ldVxI (fieldX o))
  | _ => none

/-- The decoder of R103, which selects on the class nibble `opcode[15:12]`; none stands for illegal. -/
def decodeByClass (o : Word) : Option Instr :=
  match (extract o 0xF000 12).toNat with
  | 0x0 => if o = 0x00E0 then some .cls else if o = 0x00EE then some .ret else some (.sysAddr (fieldNnn o))
  | 0x1 => some (.jpAddr (fieldNnn o))
  | 0x2 => some (.callAddr (fieldNnn o))
  | 0x3 => some (.seVxNn (fieldX o) (fieldNn o))
  | 0x4 => some (.sneVxNn (fieldX o) (fieldNn o))
  | 0x5 => if fieldN o = 0 then some (.seVxVy (fieldX o) (fieldY o)) else none
  | 0x6 => some (.ldVxNn (fieldX o) (fieldNn o))
  | 0x7 => some (.addVxNn (fieldX o) (fieldNn o))
  | 0x8 => decodeClass8 o
  | 0x9 => if fieldN o = 0 then some (.sneVxVy (fieldX o) (fieldY o)) else none
  | 0xA => some (.ldIAddr (fieldNnn o))
  | 0xB => some (.jpV0Addr (fieldNnn o))
  | 0xC => some (.rndVxNn (fieldX o) (fieldNn o))
  | 0xD => some (.drwVxVyN (fieldX o) (fieldY o) (fieldN o))
  | 0xE =>
    if fieldNn o = 0x9E then some (.skpVx (fieldX o))
    else if fieldNn o = 0xA1 then some (.sknpVx (fieldX o)) else none
  | _ => decodeClassF o

/-! ### The encoder (R102) -/

/-- Register x in bits 11-8 (R91). -/
def putX (x : Reg) : Word := BitVec.ofNat 16 x.val <<< 8

/-- Register y in bits 7-4 (R91). -/
def putY (y : Reg) : Word := BitVec.ofNat 16 y.val <<< 4

/-- Nibble n in bits 3-0 (R91). -/
def putN (n : Nibble) : Word := n.setWidth 16

/-- Byte nn in bits 7-0 (R91). -/
def putNn (nn : Byte) : Word := nn.setWidth 16

/-- Address nnn in bits 11-0 (R91). -/
def putNnn (nnn : Addr) : Word := nnn.setWidth 16

/-- The mask of an instruction's row (R97). -/
def Instr.mask : Instr → Word
  | .cls => 0xFFFF
  | .ret => 0xFFFF
  | .sysAddr _ => 0xF000
  | .jpAddr _ => 0xF000
  | .callAddr _ => 0xF000
  | .seVxNn _ _ => 0xF000
  | .sneVxNn _ _ => 0xF000
  | .seVxVy _ _ => 0xF00F
  | .ldVxNn _ _ => 0xF000
  | .addVxNn _ _ => 0xF000
  | .ldVxVy _ _ => 0xF00F
  | .orVxVy _ _ => 0xF00F
  | .andVxVy _ _ => 0xF00F
  | .xorVxVy _ _ => 0xF00F
  | .addVxVy _ _ => 0xF00F
  | .subVxVy _ _ => 0xF00F
  | .shrVxVy _ _ => 0xF00F
  | .subnVxVy _ _ => 0xF00F
  | .shlVxVy _ _ => 0xF00F
  | .sneVxVy _ _ => 0xF00F
  | .ldIAddr _ => 0xF000
  | .jpV0Addr _ => 0xF000
  | .rndVxNn _ _ => 0xF000
  | .drwVxVyN _ _ _ => 0xF000
  | .skpVx _ => 0xF0FF
  | .sknpVx _ => 0xF0FF
  | .ldVxDt _ => 0xF0FF
  | .ldVxN _ => 0xF0FF
  | .ldDtVx _ => 0xF0FF
  | .ldStVx _ => 0xF0FF
  | .addIVx _ => 0xF0FF
  | .ldFVx _ => 0xF0FF
  | .ldBVx _ => 0xF0FF
  | .ldIVx _ => 0xF0FF
  | .ldVxI _ => 0xF0FF

/-- The pattern of an instruction's row (R97). -/
def Instr.pattern : Instr → Word
  | .cls => 0x00E0
  | .ret => 0x00EE
  | .sysAddr _ => 0x0000
  | .jpAddr _ => 0x1000
  | .callAddr _ => 0x2000
  | .seVxNn _ _ => 0x3000
  | .sneVxNn _ _ => 0x4000
  | .seVxVy _ _ => 0x5000
  | .ldVxNn _ _ => 0x6000
  | .addVxNn _ _ => 0x7000
  | .ldVxVy _ _ => 0x8000
  | .orVxVy _ _ => 0x8001
  | .andVxVy _ _ => 0x8002
  | .xorVxVy _ _ => 0x8003
  | .addVxVy _ _ => 0x8004
  | .subVxVy _ _ => 0x8005
  | .shrVxVy _ _ => 0x8006
  | .subnVxVy _ _ => 0x8007
  | .shlVxVy _ _ => 0x800E
  | .sneVxVy _ _ => 0x9000
  | .ldIAddr _ => 0xA000
  | .jpV0Addr _ => 0xB000
  | .rndVxNn _ _ => 0xC000
  | .drwVxVyN _ _ _ => 0xD000
  | .skpVx _ => 0xE09E
  | .sknpVx _ => 0xE0A1
  | .ldVxDt _ => 0xF007
  | .ldVxN _ => 0xF00A
  | .ldDtVx _ => 0xF015
  | .ldStVx _ => 0xF018
  | .addIVx _ => 0xF01E
  | .ldFVx _ => 0xF029
  | .ldBVx _ => 0xF033
  | .ldIVx _ => 0xF055
  | .ldVxI _ => 0xF065

/-- An instruction's operands in the positions its format gives them (R91, R93). -/
def Instr.fieldBits : Instr → Word
  | .cls => 0
  | .ret => 0
  | .sysAddr nnn => putNnn nnn
  | .jpAddr nnn => putNnn nnn
  | .callAddr nnn => putNnn nnn
  | .seVxNn x nn => putX x ||| putNn nn
  | .sneVxNn x nn => putX x ||| putNn nn
  | .seVxVy x y => putX x ||| putY y
  | .ldVxNn x nn => putX x ||| putNn nn
  | .addVxNn x nn => putX x ||| putNn nn
  | .ldVxVy x y => putX x ||| putY y
  | .orVxVy x y => putX x ||| putY y
  | .andVxVy x y => putX x ||| putY y
  | .xorVxVy x y => putX x ||| putY y
  | .addVxVy x y => putX x ||| putY y
  | .subVxVy x y => putX x ||| putY y
  | .shrVxVy x y => putX x ||| putY y
  | .subnVxVy x y => putX x ||| putY y
  | .shlVxVy x y => putX x ||| putY y
  | .sneVxVy x y => putX x ||| putY y
  | .ldIAddr nnn => putNnn nnn
  | .jpV0Addr nnn => putNnn nnn
  | .rndVxNn x nn => putX x ||| putNn nn
  | .drwVxVyN x y n => putX x ||| putY y ||| putN n
  | .skpVx x => putX x
  | .sknpVx x => putX x
  | .ldVxDt x => putX x
  | .ldVxN x => putX x
  | .ldDtVx x => putX x
  | .ldStVx x => putX x
  | .addIVx x => putX x
  | .ldFVx x => putX x
  | .ldBVx x => putX x
  | .ldIVx x => putX x
  | .ldVxI x => putX x

/-- The opcode of an instruction: its row's pattern with the fields put in (R102). -/
def encode (i : Instr) : Word := i.pattern ||| i.fieldBits

/-- The two bytes of an instruction in memory order (20_memory.md R63). -/
def encodeBytes (i : Instr) : List Byte := [highByte (encode i), lowByte (encode i)]

end Sys2Proof
end

