-- ==== Sys2Proof/Config.lean ====
section
/-! DEFINITION. The parameters of the hardware (spec 00_scope.md R7) and the free values of its inputs. -/

namespace Sys2Proof

/-- MEM_SIZE: addresses 0x000-0xFFF (00_scope.md R7). -/
def Config.memSize : Nat := 4096

/-- PROG_START: the reset PC and the address of the first ROM byte (00_scope.md R7). -/
def Config.progStart : Nat := 0x200

/-- FONT_LEN: 16 glyphs of 5 bytes from FONT_BASE = 0x000 (00_scope.md R7). -/
def Config.fontLen : Nat := 80

/-- ROM_MAX = 4096 - 0x200 (00_scope.md R7). -/
def Config.romMax : Nat := 3584

/-- FETCH_LIMIT: the highest PC that fetches (00_scope.md R7). -/
def Config.fetchLimit : Nat := 4094

/-- SYS_POLICY: what executing SYS_ADDR does (41_flow.md R170; 92_eei_decisions.md D1). -/
inductive SysPolicy where
  | fatal
  | nop
deriving DecidableEq, Repr

/-- VF_ALIAS_POLICY: what ADD, SUB, SUBN, SHR and SHL on Vx, Vy do when x = F (40_cycle.md R150;
92_eei_decisions.md D5). -/
inductive VfAliasPolicy where
  | textOrder
  | fault
deriving DecidableEq, Repr

/-- KEY_OOR_POLICY: the pressed bit of SKP and SKNP for a key above 15 (44_peripheral.md R282;
92_eei_decisions.md D12). -/
inductive KeyOorPolicy where
  | draw
  | notPressed
deriving DecidableEq, Repr

/-- The parameters a model takes as configuration (00_scope.md R7, last sentence). -/
structure Config where
  /-- DISPLAY_W, D3. -/
  displayW : Nat
  /-- DISPLAY_H, D3. -/
  displayH : Nat
  /-- FONT, 80 bytes, D4. -/
  font : List Byte
  /-- SYS_POLICY, D1. -/
  sysPolicy : SysPolicy
  /-- VF_ALIAS_POLICY, D5. -/
  vfAliasPolicy : VfAliasPolicy
  /-- KEY_OOR_POLICY, D12. -/
  keyOorPolicy : KeyOorPolicy
deriving DecidableEq, Repr

/-- The 16 glyphs of the default FONT (70_reset_and_hazards.md R362). PRESUMED unsafe (log entry 4): the bytes are
the conventional CHIP-8 font, which no source backs (D4). -/
def Config.defaultFont : List Byte :=
  [0xF0, 0x90, 0x90, 0x90, 0xF0] ++ [0x20, 0x60, 0x20, 0x20, 0x70] ++
  [0xF0, 0x10, 0xF0, 0x80, 0xF0] ++ [0xF0, 0x10, 0xF0, 0x10, 0xF0] ++
  [0x90, 0x90, 0xF0, 0x10, 0x10] ++ [0xF0, 0x80, 0xF0, 0x10, 0xF0] ++
  [0xF0, 0x80, 0xF0, 0x90, 0xF0] ++ [0xF0, 0x10, 0x20, 0x40, 0x40] ++
  [0xF0, 0x90, 0xF0, 0x90, 0xF0] ++ [0xF0, 0x90, 0xF0, 0x10, 0xF0] ++
  [0xF0, 0x90, 0xF0, 0x90, 0x90] ++ [0xE0, 0x90, 0xE0, 0x90, 0xE0] ++
  [0xF0, 0x80, 0x80, 0x80, 0xF0] ++ [0xE0, 0x90, 0x90, 0x90, 0xE0] ++
  [0xF0, 0x80, 0xF0, 0x80, 0xF0] ++ [0xF0, 0x80, 0xF0, 0x80, 0x80]

/-- The values this hardware takes (00_scope.md R7). PRESUMED (log entry 5): 64 x 32 is from general knowledge, D3. -/
def Config.default : Config where
  displayW := 64
  displayH := 32
  font := Config.defaultFont
  sysPolicy := .fatal
  vfAliasPolicy := .textOrder
  keyOorPolicy := .draw

/-- A configuration the rules speak of: a display with at least one pixel and a font of 80 bytes. -/
def Config.wf (c : Config) : Bool :=
  decide (0 < c.displayW) && decide (0 < c.displayH) && decide (c.font.length = Config.fontLen)

/-! The free values (log entry 9). None has a body, so nothing can be proved of what one of them is. Each is
applied to a counter in State that every use advances. -/

/-- The n-th fresh byte of the random source (42_alu.md R211, D20). -/
opaque Config.freeRandomByte : Nat → Byte

/-- The n-th mask `getKeys()` answers (44_peripheral.md R273). -/
opaque Config.freeKeyMask : Nat → Word

/-- The n-th answer of `waitKey()`: none or a key 0-15 (44_peripheral.md R274). -/
opaque Config.freeKeyPress : Nat → Option (Fin 16)

/-- The n-th `draw Bool()`: the pressed bit of a key above 15 (44_peripheral.md R282, D12). -/
opaque Config.freePressedBit : Nat → Bool

end Sys2Proof
end

