-- ==== Sys2Proof/Machine/State.lean ====
section
/-! DEFINITION. The state of the CHIP-8 CORE (10_state.md R30), its configuration, its peripheral and host inputs, the
records of the model, the reasons a step stops, and the state at power-on (R46). All of it is plain data. -/

namespace Sys2Proof.Machine

/-- Memory as its differences from the contents at reset: (address, byte) pairs in the canonical form of Memory.wf. -/
abbrev Memory := List Host.Cell

/-- The fatal faults and what each records (60_exceptions.md R320, codes 1-5). -/
inductive FaultInfo where
  /-- Code 1: no opcode-table match, or SYS_ADDR under SYS_POLICY = fatal. -/
  | illegalInstruction (opcode pc : Word)
  /-- Code 2: RET with the stack empty. -/
  | stackUnderflow (pc : Word)
  /-- Code 3: CALL_ADDR with 16 entries in use. -/
  | stackOverflow (pc : Word)
  /-- Code 4: a fetch past 4094 (addr = PC) or an I-relative operation exceeding 4095 (addr = I). -/
  | memoryOutOfBounds (addr pc : Word)
  /-- Code 5: a font lookup of a value above 15. -/
  | invalidDigit (value : Byte) (pc : Word)
deriving DecidableEq, Repr

/-- What a step returns to the host when it does not find the machine halted (40_cycle.md R147). -/
inductive StepOutcome where
  /-- The instruction completed. -/
  | executed
  /-- The key wait found no key. -/
  | retry
  /-- A fatal fault was raised in fetch, decode or execute. -/
  | faulted (info : FaultInfo)
deriving DecidableEq, Repr

/-- One call of the peripheral capability interface with its arguments (44_peripheral.md R270). -/
inductive PeripheralCall where
  | clearDisplay
  | drawPixel (x y : Nat) (value : Bool)
  | getKeys
  | waitKey
  | enableSound
  | disableSound
deriving DecidableEq, Repr

/-- One input of the machine: the answers the host has supplied, in order, and how many answers have been taken. Once
the supplied answers are used up, the next one is the free value at `taken` (log entry 9). -/
structure Channel (α : Type) where
  supplied : List α
  taken : Nat
deriving DecidableEq, Repr

/-- The keyboard of the reference peripheral (44_peripheral.md R278). -/
structure Keypad where
  /-- The key-held mask: bit k is 1 while key k is held. -/
  held : Word
  /-- The queue of key presses, the most recent first. -/
  presses : List (Fin 16)
deriving DecidableEq, Repr

/-- The host's inputs to a step (00_scope.md R6; 44_peripheral.md R273, R274; 42_alu.md R211). -/
structure HostInputs where
  /-- Answers of `draw RandomByte()`. -/
  randomBytes : Channel Byte
  /-- Answers of `getKeys()`. -/
  keyMasks : Channel Word
  /-- Answers of `waitKey()`: none, or a key 0-15. -/
  keyPresses : Channel (Option (Fin 16))
  /-- Answers of `draw Bool()`, the pressed bit of a key above 15. -/
  pressedBits : Channel Bool
  /-- The keyboard of the reference peripheral, where it is attached: then it answers `getKeys()` and `waitKey()`, and
  otherwise the two channels do (44_peripheral.md R278; log entry 40). -/
  keypad : Option Keypad
deriving DecidableEq, Repr

/-- The machine: the CPU aggregate of R30, then its configuration, its environment and the model's records. -/
structure State where
  /-- `mem`, 4096 bytes (20_memory.md R60). -/
  mem : Memory
  /-- V0-VF (R31). -/
  v : Vector Byte 16
  /-- I (R35). -/
  i : Word
  /-- PC (R33). -/
  pc : Word
  /-- SP + 1, the number of entries in use (R37). -/
  depth : Fin 17
  /-- The 16 return addresses (R36). -/
  stack : Vector Word 16
  /-- DT (R38). -/
  dt : Byte
  /-- ST (R39). -/
  st : Byte
  /-- The state machine: true = halted, false = running (R40). -/
  halted : Bool
  /-- The sound latch (R41). -/
  soundEnabled : Bool
  /-- The configuration (00_scope.md R7), which no operation changes (log entry 2). -/
  cfg : Config
  /-- The peripheral's framebuffer (44_peripheral.md R278): bit y * DISPLAY_W + x is pixel (x, y) (log entry 10). -/
  display : Nat
  /-- The peripheral's sound state (44_peripheral.md R278). -/
  audible : Bool
  /-- The host's inputs. -/
  inputs : HostInputs
  /-- The peripheral calls made so far, newest first (44_peripheral.md R276; log entry 11). -/
  calls : List PeripheralCall
  /-- What the last completed step returned (40_cycle.md R147), which is also the fault record of
  60_exceptions.md R327 (log entry 12). -/
  outcome : Option StepOutcome
deriving DecidableEq, Repr

/-- SP, in -1..15 (R37). -/
def State.sp (s : State) : Int := (s.depth.val : Int) - 1

/-- Why a step stops with no next state. -/
inductive Fault where
  /-- Raised by `step` on a halted machine, and by nothing else: the spec's AlreadyHalted, code 6 of R320, which
  changes no state (40_cycle.md R142; 60_exceptions.md R326). Safe: it is what the spec says. -/
  | alreadyHalted
deriving DecidableEq, Repr

/-- Forms that have no meaning. -/
inductive Refusal where
  /-- An instruction of the table that the model gives no meaning yet. Raised by no arm of exec now. Safe. -/
  | notModelled (mnemonic : String)
  /-- Refused(VFAlias): ADD, SUB, SUBN, SHR and SHL on Vx, Vy with x = F under VF_ALIAS_POLICY = fault
  (60_exceptions.md R322). Raised by those five meanings. Safe: the spec has the model refuse it. -/
  | vfAlias
  /-- Refused(RomTooLong): a load of more than 3584 bytes (60_exceptions.md R322). Raised by `load`. Safe: the spec
  has the model refuse it. -/
  | romTooLong
deriving DecidableEq, Repr

/-- An input from which nothing has been taken and for which the host has supplied nothing (log entry 9). -/
def Channel.fresh {α : Type} : Channel α := ⟨[], 0⟩

/-- The machine at power-on (R46, R360): halted, no ROM loaded. DESIGN CHOICE unsafe (log entries 9-13 and 40): every value but
`halted` is the spec's or the model's own choice. -/
def State.reset : State where
  mem := []
  v := Vector.replicate 16 0
  i := 0
  pc := 0x200
  depth := 0
  stack := Vector.replicate 16 0
  dt := 0
  st := 0
  halted := true
  soundEnabled := false
  cfg := Config.default
  display := 0
  audible := false
  inputs := ⟨Channel.fresh, Channel.fresh, Channel.fresh, Channel.fresh, none⟩
  calls := []
  outcome := none

end Sys2Proof.Machine
end

