-- ==== Sys2Proof/Machine/Ops.lean ====
section
/-! DEFINITION. The named operations that every meaning is written with: memory, registers, the ways an instruction
ends, taking a fault, the stack, the peripheral calls and the draws. -/

namespace Sys2Proof.Machine

/-! ### Memory (20_memory.md) -/

/-- What an address that memory does not list reads as: the contents at reset, FONT at 0x000-0x04F and 0 elsewhere
(10_state.md R46). -/
def unlisted (font : List Byte) (a : Nat) : Byte := if a < Config.fontLen then font.getD a 0 else 0

/-- The byte at an address. -/
def Memory.read (font : List Byte) : Memory → Nat → Byte
  | [], a => unlisted font a
  | (k, b) :: rest, a => if k = a then b else Memory.read font rest a

/-- Puts a byte at an address of a rising list, with no entry for a byte equal to what an unlisted address reads as. -/
def Memory.insert (font : List Byte) : Memory → Nat → Byte → Memory
  | [], a, b => if b = unlisted font a then [] else [(a, b)]
  | (k, c) :: rest, a, b =>
    if a < k then (if b = unlisted font a then (k, c) :: rest else (a, b) :: (k, c) :: rest)
    else if a = k then (if b = unlisted font a then rest else (a, b) :: rest)
    else (k, c) :: Memory.insert font rest a b

/-- Stores a byte. An address outside 0-4095 is never written: every caller checks its range first (R62; log
entry 31). -/
def Memory.write (font : List Byte) (m : Memory) (a : Nat) (b : Byte) : Memory :=
  if a < Config.memSize then Memory.insert font m a b else m

/-- The canonical form from an address on: addresses rising, below 4096, and no entry equal to the unlisted byte. -/
def Memory.wfFrom (font : List Byte) : Nat → Memory → Bool
  | _, [] => true
  | lo, (k, b) :: rest =>
    decide (lo ≤ k) && decide (k < Config.memSize) && decide (b ≠ unlisted font k) &&
      Memory.wfFrom font (k + 1) rest

/-- The canonical form of memory. -/
def Memory.wf (font : List Byte) (m : Memory) : Bool := Memory.wfFrom font 0 m

/-- `MemRead(a, 1)` (R62). -/
def State.readMem (s : State) (a : Nat) : Byte := Memory.read s.cfg.font s.mem a

/-- `MemWrite(a, 1, b)` (R62). -/
def State.writeMem (s : State) (a : Nat) (b : Byte) : State := { s with mem := Memory.write s.cfg.font s.mem a b }

/-- Stores bytes at consecutive ascending addresses (R65). -/
def State.writeBytes (s : State) (a : Nat) : List Byte → State
  | [] => s
  | b :: rest => (s.writeMem a b).writeBytes (a + 1) rest

/-! ### Registers (10_state.md) -/

/-- `V[x]`. -/
def State.getV (s : State) (x : Reg) : Byte := s.v[x]

/-- `V[x] <- b`. -/
def State.setV (s : State) (x : Reg) (b : Byte) : State := { s with v := s.v.set x b }

/-- `I <- w`. -/
def State.setI (s : State) (w : Word) : State := { s with i := w }

/-- `DT <- b`. -/
def State.setDt (s : State) (b : Byte) : State := { s with dt := b }

/-- `ST <- b`. -/
def State.setSt (s : State) (b : Byte) : State := { s with st := b }

/-! ### How an instruction ends (40_cycle.md R145, R147) -/

/-- `pc <- target`, with the outcome Executed. -/
def State.jump (s : State) (target : Word) : State := { s with pc := target, outcome := some .executed }

/-- `pc <- pc + 2` (next). The sum is exact for every PC that fetches (R146; log entry 28). -/
def State.next (s : State) : State := s.jump (s.pc + 2)

/-- `pc <- pc + 4` (skip). -/
def State.skip (s : State) : State := s.jump (s.pc + 4)

/-- Skip or next, by a condition. -/
def State.skipIf (s : State) (c : Bool) : State := if c then s.skip else s.next

/-- `retry`: the outcome Retry, PC and every register unchanged (00_scope.md R12). -/
def State.retry (s : State) : State := { s with outcome := some .retry }

/-- Taking a fault (60_exceptions.md R324): `halted <- true`, the fault is returned to the host, and nothing else
happens: no state is saved, no mode changes, PC is not redirected, no call is made. There is no return from it but
`load` (R325). DEDUCED safe (log entry 1): the fault is a next state whose `outcome` carries the kind and information. -/
def State.raise (s : State) (info : FaultInfo) : State := { s with halted := true, outcome := some (.faulted info) }

/-! ### The stack (10_state.md R36, R37) -/

/-- The entry with index depth - 1 = SP, for a stack that is not empty. -/
def State.top (s : State) : Word := s.stack[(s.depth.val - 1) % 16]'(Nat.mod_lt _ (by decide))

/-- A push: increment SP, then write `stack[SP]`. A full stack is never pushed on (R37). -/
def State.push (s : State) (w : Word) : State :=
  if h : s.depth.val < 16 then
    { s with depth := ⟨s.depth.val + 1, by omega⟩, stack := s.stack.set s.depth.val w }
  else s

/-- The stack pointer's half of a pop: decrement SP. The entry stays in place (R36). -/
def State.dropTop (s : State) : State := { s with depth := ⟨s.depth.val - 1, by omega⟩ }

/-! ### Inputs and draws (00_scope.md R12) -/

/-- The next answer of an input: the first one the host has supplied, or the free value (log entry 9). -/
def Channel.head {α : Type} (free : Nat → α) (c : Channel α) : α := c.supplied.headD (free c.taken)

/-- The input after one answer has been taken. -/
def Channel.tail {α : Type} (c : Channel α) : Channel α := ⟨c.supplied.tail, c.taken + 1⟩

/-- The byte that `draw RandomByte()` yields (42_alu.md R211). -/
def State.randomByte (s : State) : Byte := s.inputs.randomBytes.head Config.freeRandomByte

/-- `draw RandomByte()` takes the byte. -/
def State.takeRandomByte (s : State) : State :=
  { s with inputs := { s.inputs with randomBytes := s.inputs.randomBytes.tail } }

/-- The Boolean that `draw Bool()` yields (44_peripheral.md R282). -/
def State.pressedBit (s : State) : Bool := s.inputs.pressedBits.head Config.freePressedBit

/-- `draw Bool()` takes the Boolean. -/
def State.takePressedBit (s : State) : State :=
  { s with inputs := { s.inputs with pressedBits := s.inputs.pressedBits.tail } }

/-! ### Peripheral calls (44_peripheral.md R270-R278) -/

/-- Records a call. -/
def State.record (s : State) (c : PeripheralCall) : State := { s with calls := c :: s.calls }

/-- `clearDisplay()` (R271, R278). -/
def State.clearDisplay (s : State) : State := { s.record .clearDisplay with display := 0 }

/-- The index of pixel (x, y) in the framebuffer. -/
def State.pixelIndex (s : State) (x y : Nat) : Nat := y * s.cfg.displayW + x

/-- Pixel (x, y) of the display. -/
def State.pixel (s : State) (x y : Nat) : Bool := s.display.testBit (s.pixelIndex x y)

/-- What `drawPixel(x, y, value)` answers: the prior pixel AND value (R272). -/
def State.collides (s : State) (x y : Nat) (value : Bool) : Bool := s.pixel x y && value

/-- `drawPixel(x, y, value)`: XORs value into pixel (x, y) (R272). -/
def State.drawPixel (s : State) (x y : Nat) (value : Bool) : State :=
  { s.record (.drawPixel x y value) with display := s.display ^^^ (value.toNat <<< s.pixelIndex x y) }

/-- The mask `getKeys()` answers (R273): the key-held mask of the reference peripheral where it is attached (R278), and
otherwise the next answer of the host. -/
def State.keyMask (s : State) : Word :=
  match s.inputs.keypad with
  | some pad => pad.held
  | none => s.inputs.keyMasks.head Config.freeKeyMask

/-- The inputs after one answer of `getKeys()`: the reference peripheral keeps its mask (R278). -/
def HostInputs.takeKeyMask (inputs : HostInputs) : HostInputs :=
  match inputs.keypad with
  | some _ => inputs
  | none => { inputs with keyMasks := inputs.keyMasks.tail }

/-- `getKeys()` takes one answer. -/
def State.getKeys (s : State) : State := { s.record .getKeys with inputs := s.inputs.takeKeyMask }

/-- What `waitKey()` answers, none or a key 0-15 (R274): the most recent press in the queue of the reference peripheral
where it is attached (R278), and otherwise the next answer of the host. -/
def State.keyPress (s : State) : Option (Fin 16) :=
  match s.inputs.keypad with
  | some pad => pad.presses.head?
  | none => s.inputs.keyPresses.head Config.freeKeyPress

/-- The inputs after one answer of `waitKey()`: the reference peripheral pops the most recent press (R278). -/
def HostInputs.takeKeyPress (inputs : HostInputs) : HostInputs :=
  match inputs.keypad with
  | some pad => { inputs with keypad := some { pad with presses := pad.presses.tail } }
  | none => { inputs with keyPresses := inputs.keyPresses.tail }

/-- `waitKey()` takes one answer. -/
def State.waitKey (s : State) : State := { s.record .waitKey with inputs := s.inputs.takeKeyPress }

/-- `enableSound()` (R275, R278). -/
def State.enableSound (s : State) : State := { s.record .enableSound with audible := true }

/-- `disableSound()` (R275, R278). -/
def State.disableSound (s : State) : State := { s.record .disableSound with audible := false }

/-- Sets the sound latch (10_state.md R41). -/
def State.setSoundEnabled (s : State) (b : Bool) : State := { s with soundEnabled := b }

/-! ### Fetch (40_cycle.md R143) -/

/-- PC can be fetched from: PC ≤ 4094. -/
def State.canFetch (s : State) : Bool := decide (s.pc.toNat ≤ Config.fetchLimit)

/-- The big-endian opcode at PC. -/
def State.fetchWord (s : State) : Word := wordOfBytes (s.readMem s.pc.toNat) (s.readMem (s.pc.toNat + 1))

end Sys2Proof.Machine
end

