-- ==== Sys2Proof/Machine/Flags.lean ====
section
/-! DEFINITION. The values the flag VF takes (42_alu.md R199) and the order in which result and flag are written
(40_cycle.md R150). -/

namespace Sys2Proof.Machine

/-- A condition as the byte 1 or 0. -/
def flagByte (c : Bool) : Byte := if c then 1 else 0

/-- The carry of a sum computed before truncation: sum > 0xFF (R206). -/
def carry (a b : Byte) : Byte := flagByte (decide (0xFF < a.toNat + b.toNat))

/-- 1 exactly when the minuend is strictly greater, before the subtraction (R207, R208). -/
def greater (minuend subtrahend : Byte) : Byte := flagByte (decide (subtrahend.toNat < minuend.toNat))

/-- The bit a right shift puts out: `V[x] & 1` (R209). -/
def bitOutRight (b : Byte) : Byte := b &&& 1

/-- The bit a left shift puts out: `V[x] >> 7` (R210). -/
def bitOutLeft (b : Byte) : Byte := b >>> 7

/-- `V[x] <- result; V[0xF] <- flag`, in this order: with x = F the flag stays (R150; log entry 7). -/
def writeResultThenFlag (s : State) (x : Reg) (result flag : Byte) : State := (s.setV x result).setV Reg.vf flag

/-- `V[0xF] <- flag; V[x] <- f(V[x])`, the second statement reading V[x] anew: with x = F the shifted flag stays
(R150, R209, R210; log entry 7). -/
def writeFlagThenShift (s : State) (x : Reg) (flag : Byte) (f : Byte → Byte) : State :=
  (s.setV Reg.vf flag).setV x (f ((s.setV Reg.vf flag).getV x))

/-- The five instructions whose result and flag can be one register: under VF_ALIAS_POLICY = fault the form x = F is
refused, and otherwise the writes complete and PC advances (R150; 60_exceptions.md R322). -/
def endFlagWrite (s : State) (x : Reg) (written : State) : Host.Outcome State Fault Refusal :=
  if s.cfg.vfAliasPolicy = .fault ∧ x = Reg.vf then .refused .vfAlias else .next written.next

end Sys2Proof.Machine
end

