-- ==== Sys2Proof/Machine/Operands.lean ====
section
/-! DEFINITION. The operand forms: the jump targets, the I-relative range, the glyph address, the decimal digits, the
register block, the key test and the sprite. Sums are exact on natural numbers (00_scope.md R10). -/

namespace Sys2Proof.Machine

/-- `nnn` as a 16-bit address (30_encoding.md R92). -/
def addrWord (nnn : Addr) : Word := nnn.setWidth 16

/-- `V[0] + nnn`, at most 0x10FE, so the 16-bit sum does not wrap (41_flow.md R178). -/
def jumpV0Target (s : State) (nnn : Addr) : Word := (s.getV 0).setWidth 16 + addrWord nnn

/-- The bound of an I-relative operation: `I + offset <= 4095` on the exact sum (10_state.md R35). -/
def iInBounds (s : State) (offset : Nat) : Bool := decide (s.i.toNat + offset ≤ 4095)

/-- The fault of an I-relative operation: addr is I, the base (60_exceptions.md R320). -/
def iOutOfBounds (s : State) : FaultInfo := .memoryOutOfBounds s.i s.pc

/-- `(I + V[x]) mod 65536` (43_index_memory.md R241). -/
def indexSum (s : State) (x : Reg) : Word := s.i + (s.getV x).setWidth 16

/-- `V[x] * 5`, the address of a glyph (43_index_memory.md R242). -/
def glyphAddress (b : Byte) : Word := BitVec.ofNat 16 (b.toNat * 5)

/-- The hundreds, tens and ones of a byte, the hundreds first (43_index_memory.md R243). PRESUMED unsafe (log entry 20):
the order of the digits is the spec's choice D26. -/
def bcdDigits (b : Byte) : List Byte :=
  [BitVec.ofNat 8 (b.toNat / 100), BitVec.ofNat 8 (b.toNat / 10 % 10), BitVec.ofNat 8 (b.toNat % 10)]

/-- V0 to Vx, the block of LD_I_VX (43_index_memory.md R244). -/
def registerBlock (s : State) (x : Reg) : List Byte := (s.v.toList).take (x.val + 1)

/-- `V[k] <- MemRead(I + k, 1)` for the first count registers, ascending (43_index_memory.md R245). -/
def loadBlock (s : State) : Nat → State
  | 0 => s
  | count + 1 => (loadBlock s count).setV (Fin.ofNat 16 count) (s.readMem (s.i.toNat + count))

/-- The key test of SKP and SKNP after `getKeys()` answered m: bit k of the mask for a key k, and for k > 15 a drawn
Boolean, or 0 under not_pressed (44_peripheral.md R282, D12). -/
def keyPressed (s : State) (k : Byte) (m : Word) : Bool :=
  if k.toNat ≤ 15 then m.getLsbD k.toNat
  else match s.cfg.keyOorPolicy with
    | .draw => s.pressedBit
    | .notPressed => false

/-- The state after the key test's calls and draws: `getKeys()` once, and one draw for k > 15 under draw. -/
def afterKeyTest (s : State) (k : Byte) : State :=
  if k.toNat ≤ 15 then s.getKeys
  else match s.cfg.keyOorPolicy with
    | .draw => s.getKeys.takePressedBit
    | .notPressed => s.getKeys

/-- One pixel of a sprite: its place on the display and the sprite's bit. -/
structure SpritePixel where
  x : Nat
  y : Nat
  value : Bool
deriving DecidableEq, Repr

/-- One sprite row: 8 pixels, bit 7 leftmost, each wrapped around the display's width (44_peripheral.md R281).
PRESUMED (log entry 18): bit 7 leftmost, the wrap in the CPU and the calls for 0 bits are decision D6. -/
def spriteRow (s : State) (b : Byte) (x0 y : Nat) : List SpritePixel :=
  (List.range 8).map fun c => ⟨(x0 + c) % s.cfg.displayW, y % s.cfg.displayH, b.getLsbD (7 - c)⟩

/-- The pixels of the n-byte sprite at I drawn at (x0, y0), in the order of the calls: rows top to bottom, left to right
(44_peripheral.md R281). -/
def spritePixels (s : State) (x0 y0 n : Nat) : List SpritePixel :=
  (List.range n).flatMap fun r => spriteRow s (s.readMem (s.i.toNat + r)) x0 (y0 + r)

/-- One `drawPixel` call for each pixel, in order. -/
def State.drawPixels (s : State) : List SpritePixel → State
  | [] => s
  | p :: rest => (s.drawPixel p.x p.y p.value).drawPixels rest

/-- Whether any of those calls answers true (44_peripheral.md R281, D6). -/
def State.anyCollides (s : State) : List SpritePixel → Bool
  | [] => false
  | p :: rest => s.collides p.x p.y p.value || (s.drawPixel p.x p.y p.value).anyCollides rest

end Sys2Proof.Machine
end

