-- ==== Sys2Proof/Machine/Alu.lean ====
section
/-! DEFINITION. Register loads, arithmetic and logic (42_alu.md). Sums and differences wrap modulo 256 (R199). -/

namespace Sys2Proof.Machine

/-- LD_VX_NN (R200). -/
def execLdVxNn (x : Reg) (nn : Byte) (s : State) : Host.Outcome State Fault Refusal := .next (s.setV x nn).next

/-- ADD_VX_NN (R201): no flag. -/
def execAddVxNn (x : Reg) (nn : Byte) (s : State) : Host.Outcome State Fault Refusal :=
  .next (s.setV x (s.getV x + nn)).next

/-- LD_VX_VY (R202). -/
def execLdVxVy (x y : Reg) (s : State) : Host.Outcome State Fault Refusal := .next (s.setV x (s.getV y)).next

/-- OR_VX_VY (R203): no flag (D23, log entry 19). -/
def execOrVxVy (x y : Reg) (s : State) : Host.Outcome State Fault Refusal :=
  .next (s.setV x (s.getV x ||| s.getV y)).next

/-- AND_VX_VY (R204): no flag (D23, log entry 19). -/
def execAndVxVy (x y : Reg) (s : State) : Host.Outcome State Fault Refusal :=
  .next (s.setV x (s.getV x &&& s.getV y)).next

/-- XOR_VX_VY (R205): no flag (D23, log entry 19). -/
def execXorVxVy (x y : Reg) (s : State) : Host.Outcome State Fault Refusal :=
  .next (s.setV x (s.getV x ^^^ s.getV y)).next

/-- ADD_VX_VY (R206): the sum, then the carry. -/
def execAddVxVy (x y : Reg) (s : State) : Host.Outcome State Fault Refusal :=
  endFlagWrite s x (writeResultThenFlag s x (s.getV x + s.getV y) (carry (s.getV x) (s.getV y)))

/-- SUB_VX_VY (R207): Vx - Vy, then whether Vx was strictly greater. -/
def execSubVxVy (x y : Reg) (s : State) : Host.Outcome State Fault Refusal :=
  endFlagWrite s x (writeResultThenFlag s x (s.getV x - s.getV y) (greater (s.getV x) (s.getV y)))

/-- SUBN_VX_VY (R208): Vy - Vx, then whether Vy was strictly greater. -/
def execSubnVxVy (x y : Reg) (s : State) : Host.Outcome State Fault Refusal :=
  endFlagWrite s x (writeResultThenFlag s x (s.getV y - s.getV x) (greater (s.getV y) (s.getV x)))

/-- SHR_VX_VY (R209): the bit shifted out, then Vx >> 1. The field y is not read (D35, log entry 22). -/
def execShrVxVy (x _y : Reg) (s : State) : Host.Outcome State Fault Refusal :=
  endFlagWrite s x (writeFlagThenShift s x (bitOutRight (s.getV x)) (· >>> 1))

/-- SHL_VX_VY (R210): the bit shifted out, then Vx << 1. The field y is not read (D35, log entry 22). -/
def execShlVxVy (x _y : Reg) (s : State) : Host.Outcome State Fault Refusal :=
  endFlagWrite s x (writeFlagThenShift s x (bitOutLeft (s.getV x)) (· <<< 1))

/-- RND_VX_NN (R211): a fresh free byte AND nn (log entry 9). -/
def execRndVxNn (x : Reg) (nn : Byte) (s : State) : Host.Outcome State Fault Refusal :=
  .next (s.takeRandomByte.setV x (s.randomByte &&& nn)).next

end Sys2Proof.Machine
end

