-- ==== Sys2Proof/Machine/Flow.lean ====
section
/-! DEFINITION. Control transfer and skips (41_flow.md). -/

namespace Sys2Proof.Machine

/-- SYS_ADDR (R170): IllegalInstruction under SYS_POLICY = fatal, a no-op that advances PC under nop. -/
def execSysAddr (nnn : Addr) (s : State) : Host.Outcome State Fault Refusal :=
  match s.cfg.sysPolicy with
  | .fatal => .next (s.raise (.illegalInstruction (encode (.sysAddr nnn)) s.pc))
  | .nop => .next s.next

/-- RET (R171): pop the stack into PC. -/
def execRet (s : State) : Host.Outcome State Fault Refusal :=
  if s.depth.val = 0 then .next (s.raise (.stackUnderflow s.pc)) else .next (s.dropTop.jump s.top)

/-- JP_ADDR (R172). -/
def execJpAddr (nnn : Addr) (s : State) : Host.Outcome State Fault Refusal := .next (s.jump (addrWord nnn))

/-- CALL_ADDR (R173): push pc + 2, jump. -/
def execCallAddr (nnn : Addr) (s : State) : Host.Outcome State Fault Refusal :=
  if s.depth.val = 16 then .next (s.raise (.stackOverflow s.pc))
  else .next ((s.push (s.pc + 2)).jump (addrWord nnn))

/-- SE_VX_NN (R174). PRESUMED (log entry 21): the condition is D25's. -/
def execSeVxNn (x : Reg) (nn : Byte) (s : State) : Host.Outcome State Fault Refusal :=
  .next (s.skipIf (s.getV x == nn))

/-- SNE_VX_NN (R175). PRESUMED (log entry 21). -/
def execSneVxNn (x : Reg) (nn : Byte) (s : State) : Host.Outcome State Fault Refusal :=
  .next (s.skipIf (s.getV x != nn))

/-- SE_VX_VY (R176). PRESUMED (log entry 21). -/
def execSeVxVy (x y : Reg) (s : State) : Host.Outcome State Fault Refusal :=
  .next (s.skipIf (s.getV x == s.getV y))

/-- SNE_VX_VY (R177). PRESUMED (log entry 21). -/
def execSneVxVy (x y : Reg) (s : State) : Host.Outcome State Fault Refusal :=
  .next (s.skipIf (s.getV x != s.getV y))

/-- JP_V0_ADDR (R178): the target is not reduced to 12 bits. -/
def execJpV0Addr (nnn : Addr) (s : State) : Host.Outcome State Fault Refusal := .next (s.jump (jumpV0Target s nnn))

end Sys2Proof.Machine
end

