-- ==== Sys2Proof/Machine/IndexMemory.lean ====
section
/-! DEFINITION. The index register and memory transfers (43_index_memory.md). Every bound is checked before the first
access (20_memory.md R62), and no transfer changes I (D23, log entry 19). -/

namespace Sys2Proof.Machine

/-- LD_I_ADDR (R240). -/
def execLdIAddr (nnn : Addr) (s : State) : Host.Outcome State Fault Refusal := .next (s.setI (addrWord nnn)).next

/-- ADD_I_VX (R241): modulo 65536, no flag, no bound. -/
def execAddIVx (x : Reg) (s : State) : Host.Outcome State Fault Refusal := .next (s.setI (indexSum s x)).next

/-- LD_F_VX (R242): InvalidDigit above 15, otherwise the glyph's address. -/
def execLdFVx (x : Reg) (s : State) : Host.Outcome State Fault Refusal :=
  if 15 < (s.getV x).toNat then .next (s.raise (.invalidDigit (s.getV x) s.pc))
  else .next (s.setI (glyphAddress (s.getV x))).next

/-- LD_B_VX (R243): three decimal digits at I, I + 1, I + 2. -/
def execLdBVx (x : Reg) (s : State) : Host.Outcome State Fault Refusal :=
  if iInBounds s 2 then .next (s.writeBytes s.i.toNat (bcdDigits (s.getV x))).next
  else .next (s.raise (iOutOfBounds s))

/-- LD_I_VX (R244): V0 to Vx at I to I + x. -/
def execLdIVx (x : Reg) (s : State) : Host.Outcome State Fault Refusal :=
  if iInBounds s x.val then .next (s.writeBytes s.i.toNat (registerBlock s x)).next
  else .next (s.raise (iOutOfBounds s))

/-- LD_VX_I (R245): V0 to Vx from I to I + x. -/
def execLdVxI (x : Reg) (s : State) : Host.Outcome State Fault Refusal :=
  if iInBounds s x.val then .next (loadBlock s (x.val + 1)).next
  else .next (s.raise (iOutOfBounds s))

end Sys2Proof.Machine
end

