-- ==== Sys2Proof/Machine/Peripheral.lean ====
section
/-! DEFINITION. The display and keyboard instructions (44_peripheral.md). -/

namespace Sys2Proof.Machine

/-- CLS (R280). -/
def execCls (s : State) : Host.Outcome State Fault Refusal := .next s.clearDisplay.next

/-- DRW_VX_VY_N (R281): the bound `I + n <= 4095` (D7, log entry 16), the coordinates read before any call, 8 n calls,
then VF once (D6, log entry 18). -/
def execDrwVxVyN (x y : Reg) (n : Nibble) (s : State) : Host.Outcome State Fault Refusal :=
  let sprite := spritePixels s (s.getV x).toNat (s.getV y).toNat n.toNat
  if iInBounds s n.toNat then
    .next ((s.drawPixels sprite).setV Reg.vf (flagByte (s.anyCollides sprite))).next
  else .next (s.raise (iOutOfBounds s))

/-- SKP_VX (R282). -/
def execSkpVx (x : Reg) (s : State) : Host.Outcome State Fault Refusal :=
  .next ((afterKeyTest s (s.getV x)).skipIf (keyPressed s (s.getV x) s.keyMask))

/-- SKNP_VX (R283). -/
def execSknpVx (x : Reg) (s : State) : Host.Outcome State Fault Refusal :=
  .next ((afterKeyTest s (s.getV x)).skipIf (!keyPressed s (s.getV x) s.keyMask))

/-- The end of a key wait after `waitKey()`: retry on none, otherwise `V[x] <- key` and next (R284). -/
def endKeyWait (x : Reg) (key : Option (Fin 16)) (s : State) : State :=
  match key with
  | none => s.retry
  | some k => (s.setV x (BitVec.ofNat 8 k.val)).next

/-- LD_VX_N, the key wait (R284): one `waitKey()`, then its end. -/
def execLdVxN (x : Reg) (s : State) : Host.Outcome State Fault Refusal := .next (endKeyWait x s.keyPress s.waitKey)

end Sys2Proof.Machine
end

