-- ==== Sys2Proof/Machine/Timers.lean ====
section
/-! DEFINITION. The timer instructions (45_timers.md). The decrement is `tick` in HostOps.lean. -/

namespace Sys2Proof.Machine

/-- LD_VX_DT (R300). -/
def execLdVxDt (x : Reg) (s : State) : Host.Outcome State Fault Refusal := .next (s.setV x s.dt).next

/-- LD_DT_VX (R301). -/
def execLdDtVx (x : Reg) (s : State) : Host.Outcome State Fault Refusal := .next (s.setDt (s.getV x)).next

/-- LD_ST_VX (R302): a value above 0 sets the latch and calls `enableSound()` once (D32, log entry 23). -/
def execLdStVx (x : Reg) (s : State) : Host.Outcome State Fault Refusal :=
  if 0 < (s.getV x).toNat then .next ((s.setSt (s.getV x)).setSoundEnabled true).enableSound.next
  else .next (s.setSt (s.getV x)).next

end Sys2Proof.Machine
end

