-- ==== Sys2Proof/Machine/Cycle.lean ====
section
/-! DEFINITION. The fetch-decode-execute cycle (40_cycle.md R142-R148). It stands in a file of its own, so that Step.lean
holds only the fixed names. -/

namespace Sys2Proof.Machine

/-- Decode and execute an opcode fetched at PC (R144, R145). -/
def decodeAndExecute (opcode : Word) (s : State) : Host.Outcome State Fault Refusal :=
  match disassemble opcode with
  | .ok i => exec i s
  | .error _ => .next (s.raise (.illegalInstruction opcode s.pc))

/-- One `step()` (R148), with the checks in the order of 60_exceptions.md R323. -/
def cycle (s : State) : Host.Outcome State Fault Refusal :=
  if s.halted then .fault .alreadyHalted
  else if s.canFetch then decodeAndExecute s.fetchWord s
  else .next (s.raise (.memoryOutOfBounds s.pc s.pc))

/-- A running machine with the opcode stored at PC, or at 0x200 when PC is past what a fetch can reach (log
entry 14). -/
def placeOpcode (s : State) (o : Word) : State :=
  let a := if s.canFetch then s.pc.toNat else Config.progStart
  { s.writeBytes a [highByte o, lowByte o] with pc := BitVec.ofNat 16 a, halted := false }

end Sys2Proof.Machine
end

