-- ==== Sys2Proof/Machine/Step.lean ====
section
/-! DEFINITION. The step of the machine, and a word of the opcode table placed where it is fetched next. -/

namespace Sys2Proof.Machine

/-- `step()` (40_cycle.md R148). -/
def step (s : State) : Host.Outcome State Fault Refusal := cycle s

/-- The machine with one instruction placed for the next step. This stands for the `load` from outside that makes a
halted machine run (70_reset_and_hazards.md R361; log entry 14). -/
def State.withFetchWord (s : State) (nbits w : Nat) : State := placeOpcode s (tableWord nbits w)

end Sys2Proof.Machine
end

