-- ==== Sys2Proof/Machine/Disassembler.lean ====
section
/-! DEFINITION. The disassembler's text functions `format` and `dump` (30_encoding.md R104-R110). DESIGN CHOICE (log
entry 29): letter case, widths and token spellings are decision D21. No rule of execution depends on them (R106). -/

namespace Sys2Proof.Machine

/-- A declared argument: a numeric field of a semantic type, or a fixed literal token (R104, R105). -/
inductive Operand where
  | reg (x : Reg)
  | byte (nn : Byte)
  | addr (nnn : Addr)
  | nibble (n : Nibble)
  | token (text : List Char)
deriving DecidableEq, Repr

/-- The arguments of an instruction in syntax order, with the tokens of R105 (R97, R107). -/
def operands : Instr → List Operand
  | .cls => []
  | .ret => []
  | .sysAddr nnn => [.addr nnn]
  | .jpAddr nnn => [.addr nnn]
  | .callAddr nnn => [.addr nnn]
  | .seVxNn x nn => [.reg x, .byte nn]
  | .sneVxNn x nn => [.reg x, .byte nn]
  | .seVxVy x y => [.reg x, .reg y]
  | .ldVxNn x nn => [.reg x, .byte nn]
  | .addVxNn x nn => [.reg x, .byte nn]
  | .ldVxVy x y => [.reg x, .reg y]
  | .orVxVy x y => [.reg x, .reg y]
  | .andVxVy x y => [.reg x, .reg y]
  | .xorVxVy x y => [.reg x, .reg y]
  | .addVxVy x y => [.reg x, .reg y]
  | .subVxVy x y => [.reg x, .reg y]
  | .shrVxVy x y => [.reg x, .reg y]
  | .subnVxVy x y => [.reg x, .reg y]
  | .shlVxVy x y => [.reg x, .reg y]
  | .sneVxVy x y => [.reg x, .reg y]
  | .ldIAddr nnn => [.token ['I'], .addr nnn]
  | .jpV0Addr nnn => [.token ['V', '0'], .addr nnn]
  | .rndVxNn x nn => [.reg x, .byte nn]
  | .drwVxVyN x y n => [.reg x, .reg y, .nibble n]
  | .skpVx x => [.reg x]
  | .sknpVx x => [.reg x]
  | .ldVxDt x => [.reg x, .token ['D', 'T']]
  | .ldVxN x => [.reg x, .token ['K']]
  | .ldDtVx x => [.token ['D', 'T'], .reg x]
  | .ldStVx x => [.token ['S', 'T'], .reg x]
  | .addIVx x => [.token ['I'], .reg x]
  | .ldFVx x => [.token ['F'], .reg x]
  | .ldBVx x => [.token ['B'], .reg x]
  | .ldIVx x => [.token ['[', 'I', ']'], .reg x]
  | .ldVxI x => [.reg x, .token ['[', 'I', ']']]

/-- The number of a numeric argument; a token has none. -/
def Operand.number : Operand → Option Nat
  | .reg x => some x.val
  | .byte nn => some nn.toNat
  | .addr nnn => some nnn.toNat
  | .nibble n => some n.toNat
  | .token _ => none

/-- `args`: the extracted numbers in syntax order, without the tokens (R94). -/
def args (i : Instr) : List Nat := (operands i).filterMap Operand.number

/-- The mnemonic: the id up to its first underscore (00_scope.md R14). -/
def mnemonicChars : Instr → List Char
  | .cls => ['C', 'L', 'S']
  | .ret => ['R', 'E', 'T']
  | .sysAddr _ => ['S', 'Y', 'S']
  | .jpAddr _ => ['J', 'P']
  | .callAddr _ => ['C', 'A', 'L', 'L']
  | .seVxNn _ _ => ['S', 'E']
  | .sneVxNn _ _ => ['S', 'N', 'E']
  | .seVxVy _ _ => ['S', 'E']
  | .ldVxNn _ _ => ['L', 'D']
  | .addVxNn _ _ => ['A', 'D', 'D']
  | .ldVxVy _ _ => ['L', 'D']
  | .orVxVy _ _ => ['O', 'R']
  | .andVxVy _ _ => ['A', 'N', 'D']
  | .xorVxVy _ _ => ['X', 'O', 'R']
  | .addVxVy _ _ => ['A', 'D', 'D']
  | .subVxVy _ _ => ['S', 'U', 'B']
  | .shrVxVy _ _ => ['S', 'H', 'R']
  | .subnVxVy _ _ => ['S', 'U', 'B', 'N']
  | .shlVxVy _ _ => ['S', 'H', 'L']
  | .sneVxVy _ _ => ['S', 'N', 'E']
  | .ldIAddr _ => ['L', 'D']
  | .jpV0Addr _ => ['J', 'P']
  | .rndVxNn _ _ => ['R', 'N', 'D']
  | .drwVxVyN _ _ _ => ['D', 'R', 'W']
  | .skpVx _ => ['S', 'K', 'P']
  | .sknpVx _ => ['S', 'K', 'N', 'P']
  | .ldVxDt _ => ['L', 'D']
  | .ldVxN _ => ['L', 'D']
  | .ldDtVx _ => ['L', 'D']
  | .ldStVx _ => ['L', 'D']
  | .addIVx _ => ['A', 'D', 'D']
  | .ldFVx _ => ['L', 'D']
  | .ldBVx _ => ['L', 'D']
  | .ldIVx _ => ['L', 'D']
  | .ldVxI _ => ['L', 'D']

/-- One upper-case hexadecimal digit. -/
def hexDigit (n : Nat) : Char :=
  ['0', '1', '2', '3', '4', '5', '6', '7', '8', '9', 'A', 'B', 'C', 'D', 'E', 'F'].getD n '0'

/-- Exactly `width` hexadecimal digits of n, zero-padded; the low ones where n has more (log entry 38). -/
def hexDigits : Nat → Nat → List Char
  | 0, _ => []
  | width + 1, n => hexDigits width (n / 16) ++ [hexDigit (n % 16)]

/-- The rendering of one argument (R104). -/
def Operand.render : Operand → List Char
  | .reg x => ['V', hexDigit x.val]
  | .byte nn => ['0', 'x'] ++ hexDigits 2 nn.toNat
  | .addr nnn => ['0', 'x'] ++ hexDigits 3 nnn.toNat
  | .nibble n => ['0', 'x'] ++ hexDigits 1 n.toNat
  | .token text => text

/-- Texts joined by a separator. -/
def joinChars (sep : List Char) : List (List Char) → List Char
  | [] => []
  | [t] => t
  | t :: u :: rest => t ++ sep ++ joinChars sep (u :: rest)

/-- The characters of `format`: the mnemonic, and for an instruction with arguments one space and the arguments joined
by a comma and a space (R108). -/
def formatChars (i : Instr) : List Char :=
  match operands i with
  | [] => mnemonicChars i
  | ops => mnemonicChars i ++ [' '] ++ joinChars [',', ' '] (ops.map Operand.render)

/-- `format(decoded)` (R108). -/
def format (i : Instr) : String := String.ofList (formatChars i)

/-- Line k of a dump: byte address, opcode, formatted instruction (R109). DESIGN CHOICE unsafe (log entry 38): a byte
address of 0x1000000 or more, for which the spec gives no form, shows its low 6 digits. -/
def dumpLine (k : Nat) (o : Word) (i : Instr) : List Char :=
  hexDigits 6 (2 * k) ++ [' ', ' '] ++ hexDigits 4 o.toNat ++ [' ', ' '] ++ formatChars i

/-- The lines of a dump from line k on, or the lookup error of an illegal opcode (R110). DESIGN CHOICE unsafe (log
entry 39): of several illegal opcodes the first one's error is reported, a case for which the spec names none. -/
def dumpLines : Nat → List Word → Except DecodeError (List (List Char))
  | _, [] => .ok []
  | k, o :: rest =>
    match disassemble o with
    | .error e => .error e
    | .ok i =>
      match dumpLines (k + 1) rest with
      | .error e => .error e
      | .ok lines => .ok (dumpLine k o i :: lines)

/-- The characters of `dump(opcodes)`: the lines joined by a newline, with none at the end (R109). -/
def dumpChars (opcodes : List Word) : Except DecodeError (List Char) :=
  match dumpLines 0 opcodes with
  | .error e => .error e
  | .ok lines => .ok (joinChars [Char.ofNat 10] lines)

/-- `dump(opcodes)` (R109, R110). -/
def dump (opcodes : List Word) : Except DecodeError String :=
  match dumpChars opcodes with
  | .error e => .error e
  | .ok text => .ok (String.ofList text)

end Sys2Proof.Machine
end

