-- ==== Sys2Proof/Machine/HostOps.lean ====
section
/-! DEFINITION. The host's operations (40_cycle.md R140): `tick`, `load` and `halt` beside `step`, and their serial
interleaving in any order (R152). -/

namespace Sys2Proof.Machine

/-- `if t > 0: t <- t - 1`: a timer stops at 0 (45_timers.md R299). -/
def countDown (t : Byte) : Byte := if t = 0 then 0 else t - 1

/-- The end of a tick: with ST = 0 and the latch set, clear the latch and call `disableSound()` (R332). -/
def silenceIfDone (s : State) : State :=
  if s.st = 0 ∧ s.soundEnabled = true then (s.setSoundEnabled false).disableSound else s

/-- `tick()` (60_exceptions.md R332): the same whether halted or not (D15, log entry 23). -/
def tick (s : State) : State := silenceIfDone ((s.setDt (countDown s.dt)).setSt (countDown s.st))

/-- `halt()` (40_cycle.md R149). -/
def halt (s : State) : State := { s with halted := true }

/-- The state that `load(rom)` leaves (70_reset_and_hazards.md R361): memory cleared, font reseeded, registers, stack and
timers cleared, the ROM copied to 0x200, running. The sound latch is kept and no call is made (D16, D33; log entry 24).
The model's fault record is cleared (60_exceptions.md R327). Configuration, display and inputs are the host's. -/
def loadState (rom : List Byte) (s : State) : State :=
  State.writeBytes
    { s with
      mem := [], v := Vector.replicate 16 0, i := 0, pc := 0x200, depth := 0, stack := Vector.replicate 16 0,
      dt := 0, st := 0, halted := false, outcome := none }
    Config.progStart rom

/-- `load(rom)`: refused for more than ROM_MAX bytes (R361; 60_exceptions.md R322; log entry 25). -/
def load (rom : List Byte) (s : State) : Host.Outcome State Fault Refusal :=
  if Config.romMax < rom.length then .refused .romTooLong else .next (loadState rom s)

/-- The host attaches the reference peripheral's keyboard, or sets it anew between two operations (44_peripheral.md R278).
How key events make it is the host's (00_scope.md R4). -/
def State.withKeypad (s : State) (pad : Keypad) : State := { s with inputs := { s.inputs with keypad := some pad } }

/-- The four inbound operations (R140). -/
inductive HostOp where
  | step
  | tick
  | load (rom : List Byte)
  | halt
deriving DecidableEq, Repr

/-- What an operation answers. -/
def perform (op : HostOp) (s : State) : Host.Outcome State Fault Refusal :=
  match op with
  | .step => step s
  | .tick => .next (tick s)
  | .load rom => load rom s
  | .halt => .next (halt s)

/-- The machine after an operation. AlreadyHalted and the two refusals change no state (R142; 60_exceptions.md R322). -/
def after (op : HostOp) (s : State) : State :=
  match perform op s with
  | .next t => t
  | .fault _ => s
  | .refused _ => s

/-- The machine after a series of operations: the host may interleave steps and ticks as it pleases (R152). -/
def runOps : List HostOp → State → State
  | [], s => s
  | op :: rest, s => runOps rest (after op s)

end Sys2Proof.Machine
end

