-- ==== Sys2Proof/Safety.lean ====
section
/-! DEFINITION. The terms claims are stated in: the parts of the machine and what an operation leaves unchanged, how an
instruction ends, and the invariants of a run. -/

namespace Sys2Proof.Machine

/-- One observable part of the machine: a register, a byte of memory, a latch, a record. -/
inductive Part where
  | v (r : Reg)
  | i
  | pc
  | sp
  | stackEntry (k : Fin 16)
  | dt
  | st
  | halted
  | soundEnabled
  | mem (a : Nat)
  | cfg
  | display
  | audible
  | inputs
  | calls
  | outcome
deriving DecidableEq, Repr

/-- The part holds the same value in both states. Memory is compared byte by byte, as it reads. -/
def Part.same (s t : State) : Part → Prop
  | .v r => t.getV r = s.getV r
  | .i => t.i = s.i
  | .pc => t.pc = s.pc
  | .sp => t.sp = s.sp
  | .stackEntry k => t.stack[k] = s.stack[k]
  | .dt => t.dt = s.dt
  | .st => t.st = s.st
  | .halted => t.halted = s.halted
  | .soundEnabled => t.soundEnabled = s.soundEnabled
  | .mem a => t.readMem a = s.readMem a
  | .cfg => t.cfg = s.cfg
  | .display => t.display = s.display
  | .audible => t.audible = s.audible
  | .inputs => t.inputs = s.inputs
  | .calls => t.calls = s.calls
  | .outcome => t.outcome = s.outcome

/-- Every part outside `changed` is the same in both states. -/
def Frame (changed : Part → Prop) (s t : State) : Prop := ∀ p : Part, ¬ changed p → p.same s t

/-- The instruction completed (outcome Executed) with PC moved on by d bytes (40_cycle.md R145). -/
def Advanced (d : Word) (s t : State) : Prop := t.pc = s.pc + d ∧ t.outcome = some .executed

/-- A fault was taken (60_exceptions.md R324): the machine is halted, the fault is reported, and everything else is as
before. -/
def Faulted (info : FaultInfo) (s t : State) : Prop :=
  t.halted = true ∧ t.outcome = some (.faulted info) ∧ Frame (· ∈ [Part.halted, Part.outcome]) s t

/-- The opcode at PC, high byte at the lower address, as a number (20_memory.md R63). -/
def opcodeNat (s : State) : Nat := (s.readMem s.pc.toNat).toNat * 256 + (s.readMem (s.pc.toNat + 1)).toNat

/-- The address of a fault's instruction (60_exceptions.md R320). -/
def FaultInfo.pc : FaultInfo → Word
  | .illegalInstruction _ pc => pc
  | .stackUnderflow pc => pc
  | .stackOverflow pc => pc
  | .memoryOutOfBounds _ pc => pc
  | .invalidDigit _ pc => pc

/-- The five instructions whose destination and flag coincide when x = F (40_cycle.md R150). -/
def isFlagAlias (i : Instr) : Prop :=
  ∃ y, i = .addVxVy Reg.vf y ∨ i = .subVxVy Reg.vf y ∨ i = .subnVxVy Reg.vf y ∨ i = .shrVxVy Reg.vf y ∨
    i = .shlVxVy Reg.vf y

/-- The instructions that write VF as a flag, whatever their operands (10_state.md R32). -/
def writesFlag (i : Instr) : Prop :=
  ∃ x y, i = .addVxVy x y ∨ i = .subVxVy x y ∨ i = .subnVxVy x y ∨ i = .shrVxVy x y ∨ i = .shlVxVy x y ∨
    ∃ n, i = .drwVxVyN x y n

/-- The instructions whose named destination is a register, and that register; LD_VX_I names V0 to Vx (10_state.md R31,
R32). -/
def isDestination (r : Reg) : Instr → Prop
  | .ldVxNn x _ | .addVxNn x _ | .rndVxNn x _ => r = x
  | .ldVxVy x _ | .orVxVy x _ | .andVxVy x _ | .xorVxVy x _ => r = x
  | .addVxVy x _ | .subVxVy x _ | .subnVxVy x _ | .shrVxVy x _ | .shlVxVy x _ => r = x
  | .ldVxDt x | .ldVxN x => r = x
  | .ldVxI x => r ≤ x
  | .cls | .ret | .sysAddr _ | .jpAddr _ | .callAddr _ | .seVxNn _ _ | .sneVxNn _ _ | .seVxVy _ _ | .sneVxVy _ _
  | .ldIAddr _ | .jpV0Addr _ | .drwVxVyN _ _ _ | .skpVx _ | .sknpVx _ | .ldDtVx _ | .ldStVx _ | .addIVx _
  | .ldFVx _ | .ldBVx _ | .ldIVx _ => False

/-- The instructions that reach memory in their execute stage (20_memory.md R61). -/
def reachesMemory (i : Instr) : Prop :=
  ∃ x, i = .ldBVx x ∨ i = .ldIVx x ∨ i = .ldVxI x ∨ ∃ y n, i = .drwVxVyN x y n

/-- The instructions that can make a peripheral call (44_peripheral.md R276). -/
def makesCall (i : Instr) : Prop :=
  i = .cls ∨ ∃ x, i = .skpVx x ∨ i = .sknpVx x ∨ i = .ldVxN x ∨ i = .ldStVx x ∨ ∃ y n, i = .drwVxVyN x y n

/-- The inputs after the key test of SKP or SKNP on Vx: one mask is used up where the host answers, and for a key above 15 under draw one
Boolean (44_peripheral.md R282). -/
def inputsAfterKeyTest (s : State) (x : Reg) : HostInputs :=
  { s.inputs with
    keyMasks := if s.inputs.keypad = none then s.inputs.keyMasks.tail else s.inputs.keyMasks
    pressedBits :=
      if 15 < (s.getV x).toNat ∧ s.cfg.keyOorPolicy = .draw then s.inputs.pressedBits.tail else s.inputs.pressedBits }

/-- The inputs after one `waitKey()`: the reference peripheral's queue loses its most recent press where it is attached,
and otherwise one answer of the host is used up (44_peripheral.md R274, R278). -/
def inputsAfterKeyWait (s : State) : HostInputs :=
  { s.inputs with
    keyPresses := if s.inputs.keypad = none then s.inputs.keyPresses.tail else s.inputs.keyPresses
    keypad := s.inputs.keypad.map fun pad => { pad with presses := pad.presses.tail } }

/-- The set bits of the sprite at I, by row and column; column 0 is bit 7 (44_peripheral.md R281). -/
def spriteBit (s : State) (r c : Nat) : Bool := (s.readMem (s.i.toNat + r)).getLsbD (7 - c)

/-- The display is at least as large as a sprite, so the 8 n places of one DRW are distinct (44_peripheral.md R281). -/
def spriteFits (s : State) : Prop := 8 ≤ s.cfg.displayW ∧ 15 ≤ s.cfg.displayH

/-- How often a call stands in the record of calls. -/
def callCount (c : PeripheralCall) (s : State) : Nat := s.calls.count c

/-- The machine after k ticks. -/
def ticks (k : Nat) (s : State) : State := runOps (List.replicate k .tick) s

/-- A run is safe while no fatal fault is on record (60_exceptions.md R320, R327). -/
def Safe (s : State) : Prop := ∀ info, s.outcome ≠ some (.faulted info)

/-! ### Invariants of a run -/

/-- Memory is in its canonical form. -/
def MemCanonical (s : State) : Prop := Memory.wf s.cfg.font s.mem = true

/-- PC is at most 0x10FE, the largest value any instruction writes (10_state.md R34), and no stack entry is above 4096,
the address after the last opcode that can be fetched. -/
def PcBounded (s : State) : Prop := s.pc.toNat ≤ 0x10FE ∧ ∀ k : Fin 16, (s.stack[k]).toNat ≤ 4096

/-- Sound is on while ST > 0 (10_state.md R39), and the latch says whether the peripheral was last told to sound
(R41). -/
def SoundLatched (s : State) : Prop := (s.st ≠ 0 → s.soundEnabled = true) ∧ s.audible = s.soundEnabled

/-- A fault on record has halted the machine (60_exceptions.md R324, R327). -/
def FaultHalts (s : State) : Prop := ∀ info, s.outcome = some (.faulted info) → s.halted = true

/-- The configuration is sound and no pixel outside the display is set (44_peripheral.md R277). -/
def DisplayBounded (s : State) : Prop :=
  s.cfg.wf = true ∧ s.display < 2 ^ (s.cfg.displayW * s.cfg.displayH)

/-- The invariants together. -/
structure Inv (s : State) : Prop where
  mem : MemCanonical s
  pc : PcBounded s
  sound : SoundLatched s
  fault : FaultHalts s
  display : DisplayBounded s

end Sys2Proof.Machine
end

