-- ==== Sys2Proof/Certificates/Slice0/Obligations.lean ====
section
/-! DEFINITION. The statements about the model, for the provers. Each docstring names the rule of spec/ it formalises, or
says that it rests on a choice of the spec (a decision D<n>) or of the model (a log entry). -/

open Sys2Proof Sys2Proof.Machine

/-! ### Encoding and the disassembler -/

/-- The opcode of a well-formed instruction decodes to it (30_encoding.md R95, R102; the bit patterns are D2's). -/
def Obligations.DecodeOfEncode : Prop :=
  ∀ i : Instr, i.wf = true → disassemble (encode i) = .ok i

/-- R102: a decodable opcode has its matched entry's fixed bits, and re-encoding the decoded instruction gives it back. -/
def Obligations.EncodeOfDecode : Prop :=
  ∀ (o : Word) (i : Instr), disassemble o = .ok i →
    (∃ e ∈ opcodeTable, firstMatch opcodeTable o = some e ∧ o &&& e.mask = e.pattern ∧ e.build o = i) ∧
      encode i = o ∧ i.wf = true

/-- The first-match table decoder and the decoder by class nibble agree (R103, derived there from R95, R97, R98). -/
def Obligations.FirstMatchIsDecoderByClass : Prop :=
  ∀ (o : Word) (i : Instr), disassemble o = .ok i ↔ decodeByClass o = some i

/-- Exactly the opcodes of the table of R99 fail to decode (R99 with the patterns of D2). -/
def Obligations.IllegalOpcodesByClass : Prop :=
  ∀ o : Word, disassemble o = .error (.lookupError o) ↔
    ((o.toNat / 0x1000 = 0x5 ∨ o.toNat / 0x1000 = 0x9) ∧ o.toNat % 0x10 ≠ 0) ∨
    (o.toNat / 0x1000 = 0x8 ∧ o.toNat % 0x10 ∈ [0x8, 0x9, 0xA, 0xB, 0xC, 0xD, 0xF]) ∨
    (o.toNat / 0x1000 = 0xE ∧ o.toNat % 0x100 ∉ [0x9E, 0xA1]) ∨
    (o.toNat / 0x1000 = 0xF ∧ o.toNat % 0x100 ∉ [0x07, 0x0A, 0x15, 0x18, 0x1E, 0x29, 0x33, 0x55, 0x65])

/-- Exactly two pairs of entries both match some opcode: CLS and RET with SYS_ADDR (R98, derived there). -/
def Obligations.OnlyTwoPairsOverlap : Prop :=
  opcodeTable.length = 35 ∧
    ∀ (j k : Nat) (a b : TableRow) (o : Word), j < k → opcodeTable[j]? = some a → opcodeTable[k]? = some b →
      (a.matches o = true ∧ b.matches o = true ↔
        k = 2 ∧ (j = 0 ∧ o = 0x00E0 ∨ j = 1 ∧ o = 0x00EE))

/-- Words written out from the encodings of R97, one or more of every family, decode to their instructions. -/
def Obligations.WordsOfEachFamilyDecode : Prop :=
  disassemble 0b0000000011100000 = .ok .cls ∧
  disassemble 0b0000000011101110 = .ok .ret ∧
  disassemble 0b0010001101000101 = .ok (.callAddr 0x345) ∧
  disassemble 0b0111101100111100 = .ok (.addVxNn 0xB 0x3C) ∧
  disassemble 0b1000110001010111 = .ok (.subnVxVy 0xC 0x5) ∧
  disassemble 0b1101000100101111 = .ok (.drwVxVyN 0x1 0x2 0xF) ∧
  disassemble 0b1111011001100101 = .ok (.ldVxI 0x6) ∧
  disassemble 0b1111100100011000 = .ok (.ldStVx 0x9)

/-- Every printed text stands for exactly one opcode (R111, derived there; the text is D21's, log entry 29). -/
def Obligations.FormatIsInjective : Prop :=
  ∀ (o p : Word) (i j : Instr), disassemble o = .ok i → disassemble p = .ok j → format i = format j → o = p

/-- A dump of decodable opcodes has one line for each, and a dump with an illegal opcode is the lookup error of the first
one (R109, R110; D21, log entry 29; the first of several illegal opcodes and an address above 6 digits are the model's
choices, log entries 39 and 38). -/
def Obligations.DumpIsTextOrFirstLookupError : Prop :=
  (∀ os : List Word, (∀ o ∈ os, ∃ i, disassemble o = .ok i) →
    ∃ lines : List (List Char), dumpLines 0 os = .ok lines ∧ lines.length = os.length ∧
      dump os = .ok (String.ofList (joinChars [Char.ofNat 10] lines)) ∧
      ∀ (k : Nat) (o : Word) (i : Instr), os[k]? = some o → disassemble o = .ok i →
        lines[k]? = some (hexDigits 6 (2 * k) ++ [' ', ' '] ++ hexDigits 4 o.toNat ++ [' ', ' '] ++ formatChars i)) ∧
  (∀ (os rest : List Word) (o : Word), (∀ p ∈ os, ∃ i, disassemble p = .ok i) →
    disassemble o = .error (.lookupError o) → dump (os ++ o :: rest) = .error (.lookupError o))

/-! ### The cycle -/

/-- R142: a step of a halted machine is AlreadyHalted and changes nothing. -/
def Obligations.StepWhileHaltedChangesNothing : Prop :=
  ∀ s : State, s.halted = true → step s = .fault .alreadyHalted ∧ after .step s = s

/-- A running machine with PC above 4094 takes MemoryOutOfBounds with addr = PC (R143; the fault as a next state is
log entry 1). -/
def Obligations.FetchPastLimitFaults : Prop :=
  ∀ s : State, s.halted = false → 4094 < s.pc.toNat →
    ∃ t, step s = .next t ∧ Faulted (.memoryOutOfBounds s.pc s.pc) s t

/-- A running machine whose big-endian opcode at PC decodes runs exactly that instruction, at even and at odd PC (R143,
R145; an odd PC is D9's choice, log entry 15). -/
def Obligations.StepRunsDecodedInstruction : Prop :=
  ∀ (s : State) (o : Word) (i : Instr), s.halted = false → s.pc.toNat ≤ 4094 → o.toNat = opcodeNat s →
    disassemble o = .ok i → step s = exec i s

/-- R144: an opcode that does not decode raises IllegalInstruction with the opcode and PC. -/
def Obligations.StepFaultsOnIllegalOpcode : Prop :=
  ∀ (s : State) (o : Word), s.halted = false → s.pc.toNat ≤ 4094 → o.toNat = opcodeNat s →
    disassemble o = .error (.lookupError o) → ∃ t, step s = .next t ∧ Faulted (.illegalInstruction o s.pc) s t

/-- A step that reports a fault changes nothing else than `halted`, whatever the instruction, and records the PC of the
faulting instruction (R147, R324; checks before effects is D10's choice, log entry 17). -/
def Obligations.FaultingStepOnlyHalts : Prop :=
  ∀ (s t : State) (info : FaultInfo), s.halted = false → step s = .next t → t.outcome = some (.faulted info) →
    Faulted info s t ∧ info.pc = s.pc

/-- R145: every instruction ends with next, skip, an absolute PC, a retry or a raise. -/
def Obligations.EveryInstructionEndsOneWay : Prop :=
  ∀ (i : Instr) (s t : State), exec i s = .next t →
    Advanced 2 s t ∨ Advanced 4 s t ∨
    (t.outcome = some .executed ∧
      ((∃ nnn, (i = .jpAddr nnn ∨ i = .callAddr nnn) ∧ t.pc.toNat = nnn.toNat) ∨
       (i = .ret ∧ t.pc = s.top) ∨
       (∃ nnn, i = .jpV0Addr nnn ∧ t.pc.toNat = (s.getV 0).toNat + nnn.toNat))) ∨
    (t.outcome = some .retry ∧ (∃ x, i = .ldVxN x) ∧ t.pc = s.pc) ∨
    (∃ info, t.outcome = some (.faulted info) ∧ t.pc = s.pc)

/-- An instruction is refused exactly when it is one of the five flag-writing forms with x = F under
VF_ALIAS_POLICY = fault, it never faults the model, and otherwise it has a next state (R322; the policy is D5's). -/
def Obligations.RefusedExactlyOnVfAlias : Prop :=
  ∀ (i : Instr) (s : State),
    (s.cfg.vfAliasPolicy = .fault ∧ isFlagAlias i → exec i s = .refused .vfAlias) ∧
    (¬ (s.cfg.vfAliasPolicy = .fault ∧ isFlagAlias i) → ∃ t, exec i s = .next t)

/-! ### Flow -/

/-- SYS_ADDR raises IllegalInstruction with its opcode under fatal and only advances PC under nop (R170; D1, log
entry 6). -/
def Obligations.SysAddrByPolicy : Prop :=
  ∀ (nnn : Addr) (s : State),
    (s.cfg.sysPolicy = .nop → ∃ t, exec (.sysAddr nnn) s = .next t ∧ Advanced 2 s t ∧
      Frame (· ∈ [Part.pc, .outcome]) s t) ∧
    (s.cfg.sysPolicy = .fatal → ∃ t o, exec (.sysAddr nnn) s = .next t ∧ o.toNat = nnn.toNat ∧
      Faulted (.illegalInstruction o s.pc) s t)

/-- RET pops the top entry into PC, and on an empty stack takes StackUnderflow (R171; SP by D11, log entry 26). -/
def Obligations.RetPopsOrUnderflows : Prop :=
  ∀ s : State,
    (∀ k : Fin 16, s.sp = k.val → ∃ t, exec .ret s = .next t ∧ t.pc = s.stack[k] ∧ t.sp = s.sp - 1 ∧
      t.outcome = some .executed ∧ Frame (· ∈ [Part.pc, .sp, .outcome]) s t) ∧
    (s.sp = -1 → ∃ t, exec .ret s = .next t ∧ Faulted (.stackUnderflow s.pc) s t)

/-- R172: JP_ADDR sets PC to nnn; nnn = 0xFFF is accepted and the next fetch of a running machine faults. -/
def Obligations.JpAddrSetsPc : Prop :=
  ∀ (nnn : Addr) (s : State), ∃ t, exec (.jpAddr nnn) s = .next t ∧ t.pc.toNat = nnn.toNat ∧
    t.outcome = some .executed ∧ Frame (· ∈ [Part.pc, .outcome]) s t ∧
    (nnn = 0xFFF → s.halted = false → ∃ u, step t = .next u ∧ Faulted (.memoryOutOfBounds 0xFFF 0xFFF) t u)

/-- CALL_ADDR pushes pc + 2 and jumps, and with 16 entries in use takes StackOverflow (R173; SP by D11, log
entry 26). -/
def Obligations.CallPushesOrOverflows : Prop :=
  ∀ (nnn : Addr) (s : State),
    (∀ k : Fin 16, s.sp + 1 = k.val → ∃ t, exec (.callAddr nnn) s = .next t ∧ t.pc.toNat = nnn.toNat ∧
      t.sp = s.sp + 1 ∧ t.stack[k] = s.pc + 2 ∧ t.outcome = some .executed ∧
      Frame (· ∈ [Part.pc, .sp, .stackEntry k, .outcome]) s t) ∧
    (s.sp = 15 → ∃ t, exec (.callAddr nnn) s = .next t ∧ Faulted (.stackOverflow s.pc) s t)

/-- A RET resumes after the matching CALL whatever the callee did to PC and to everything but the stack (R171, R173; SP
by D11, log entry 26). -/
def Obligations.RetResumesAfterCall : Prop :=
  ∀ (nnn : Addr) (s t u : State), s.sp < 15 → exec (.callAddr nnn) s = .next t → u.sp = t.sp → u.stack = t.stack →
    ∃ w, exec .ret u = .next w ∧ w.pc = s.pc + 2 ∧ w.sp = s.sp ∧ Frame (· ∈ [Part.pc, .sp, .outcome]) u w

/-- The four skips move PC by 4 or by 2 and change nothing else (R174-R177; the conditions are D25's, log entry 21). -/
def Obligations.SkipsCompareOperands : Prop :=
  ∀ (x y : Reg) (nn : Byte) (s : State),
    (∃ t, exec (.seVxNn x nn) s = .next t ∧ Advanced (if (s.getV x).toNat = nn.toNat then 4 else 2) s t ∧
      Frame (· ∈ [Part.pc, .outcome]) s t) ∧
    (∃ t, exec (.sneVxNn x nn) s = .next t ∧ Advanced (if (s.getV x).toNat = nn.toNat then 2 else 4) s t ∧
      Frame (· ∈ [Part.pc, .outcome]) s t) ∧
    (∃ t, exec (.seVxVy x y) s = .next t ∧ Advanced (if (s.getV x).toNat = (s.getV y).toNat then 4 else 2) s t ∧
      Frame (· ∈ [Part.pc, .outcome]) s t) ∧
    (∃ t, exec (.sneVxVy x y) s = .next t ∧ Advanced (if (s.getV x).toNat = (s.getV y).toNat then 2 else 4) s t ∧
      Frame (· ∈ [Part.pc, .outcome]) s t)

/-- JP_V0_ADDR sets PC to the exact sum V0 + nnn, not reduced to 12 bits (R178; no check of the target is D9's). -/
def Obligations.JpV0AddrAddsExactly : Prop :=
  ∀ (nnn : Addr) (s : State), ∃ t, exec (.jpV0Addr nnn) s = .next t ∧
    t.pc.toNat = (s.getV 0).toNat + nnn.toNat ∧ t.outcome = some .executed ∧ Frame (· ∈ [Part.pc, .outcome]) s t

/-! ### Loads, arithmetic and logic -/

/-- R200, R202: LD_VX_NN and LD_VX_VY set the destination, every register of the machine among them, and write no
flag. -/
def Obligations.RegisterLoadsSetDestination : Prop :=
  ∀ (x y : Reg) (nn : Byte) (s : State),
    (∃ t, exec (.ldVxNn x nn) s = .next t ∧ t.getV x = nn ∧ Advanced 2 s t ∧
      Frame (· ∈ [Part.v x, .pc, .outcome]) s t) ∧
    (∃ t, exec (.ldVxVy x y) s = .next t ∧ t.getV x = s.getV y ∧ Advanced 2 s t ∧
      Frame (· ∈ [Part.v x, .pc, .outcome]) s t)

/-- R201: ADD_VX_NN adds modulo 256 and writes no flag. -/
def Obligations.AddImmediateWrapsWithoutFlag : Prop :=
  ∀ (x : Reg) (nn : Byte) (s : State), ∃ t, exec (.addVxNn x nn) s = .next t ∧
    (t.getV x).toNat = ((s.getV x).toNat + nn.toNat) % 256 ∧ Advanced 2 s t ∧
    Frame (· ∈ [Part.v x, .pc, .outcome]) s t

/-- OR, AND and XOR act bit by bit and write no flag (R203-R205; no flag is D23's reading, log entry 19). -/
def Obligations.LogicActsBitwiseWithoutFlag : Prop :=
  ∀ (x y : Reg) (s : State),
    (∃ t, exec (.orVxVy x y) s = .next t ∧ Advanced 2 s t ∧ Frame (· ∈ [Part.v x, .pc, .outcome]) s t ∧
      ∀ k < 8, (t.getV x).getLsbD k = ((s.getV x).getLsbD k || (s.getV y).getLsbD k)) ∧
    (∃ t, exec (.andVxVy x y) s = .next t ∧ Advanced 2 s t ∧ Frame (· ∈ [Part.v x, .pc, .outcome]) s t ∧
      ∀ k < 8, (t.getV x).getLsbD k = ((s.getV x).getLsbD k && (s.getV y).getLsbD k)) ∧
    (∃ t, exec (.xorVxVy x y) s = .next t ∧ Advanced 2 s t ∧ Frame (· ∈ [Part.v x, .pc, .outcome]) s t ∧
      ∀ k < 8, (t.getV x).getLsbD k = ((s.getV x).getLsbD k ^^ (s.getV y).getLsbD k))

/-- ADD_VX_VY: the sum modulo 256 in Vx unless x = F, and the carry in VF always (R206; x = F by D5, log entry 7). -/
def Obligations.AddSetsSumAndCarry : Prop :=
  ∀ (x y : Reg) (s : State), s.cfg.vfAliasPolicy = .textOrder ∨ x ≠ Reg.vf →
    ∃ t, exec (.addVxVy x y) s = .next t ∧ Advanced 2 s t ∧
      (x ≠ Reg.vf → (t.getV x).toNat = ((s.getV x).toNat + (s.getV y).toNat) % 256) ∧
      (t.getV Reg.vf).toNat = (if (s.getV x).toNat + (s.getV y).toNat > 0xFF then 1 else 0) ∧
      Frame (· ∈ [Part.v x, .v Reg.vf, .pc, .outcome]) s t

/-- SUB_VX_VY: Vx - Vy modulo 256, and VF = 1 exactly when Vx was strictly greater (R207; x = F by D5, log entry 7). -/
def Obligations.SubSetsDifferenceAndStrictFlag : Prop :=
  ∀ (x y : Reg) (s : State), s.cfg.vfAliasPolicy = .textOrder ∨ x ≠ Reg.vf →
    ∃ t, exec (.subVxVy x y) s = .next t ∧ Advanced 2 s t ∧
      (x ≠ Reg.vf → ((t.getV x).toNat : Int) = ((s.getV x).toNat - (s.getV y).toNat : Int) % 256) ∧
      (t.getV Reg.vf).toNat = (if (s.getV x).toNat > (s.getV y).toNat then 1 else 0) ∧
      Frame (· ∈ [Part.v x, .v Reg.vf, .pc, .outcome]) s t

/-- SUBN_VX_VY: Vy - Vx modulo 256, and VF = 1 exactly when Vy was strictly greater (R208; x = F by D5, log
entry 7). -/
def Obligations.SubnSetsDifferenceAndStrictFlag : Prop :=
  ∀ (x y : Reg) (s : State), s.cfg.vfAliasPolicy = .textOrder ∨ x ≠ Reg.vf →
    ∃ t, exec (.subnVxVy x y) s = .next t ∧ Advanced 2 s t ∧
      (x ≠ Reg.vf → ((t.getV x).toNat : Int) = ((s.getV y).toNat - (s.getV x).toNat : Int) % 256) ∧
      (t.getV Reg.vf).toNat = (if (s.getV y).toNat > (s.getV x).toNat then 1 else 0) ∧
      Frame (· ∈ [Part.v x, .v Reg.vf, .pc, .outcome]) s t

/-- SHR and SHL: the bit shifted out in VF and the shifted value in Vx; with x = F the shifted flag stays, which is 0 for
SHR and 0 or 2 for SHL; Vy does not matter (R209, R210; x = F by D5, Vy by D35, log entries 7 and 22). -/
def Obligations.ShiftsSetBitOutAndValue : Prop :=
  ∀ (x y : Reg) (s : State), s.cfg.vfAliasPolicy = .textOrder ∨ x ≠ Reg.vf →
    (∃ t, exec (.shrVxVy x y) s = .next t ∧ Advanced 2 s t ∧
      (x ≠ Reg.vf → (t.getV x).toNat = (s.getV x).toNat / 2 ∧ (t.getV Reg.vf).toNat = (s.getV x).toNat % 2) ∧
      (x = Reg.vf → (t.getV Reg.vf).toNat = 0) ∧
      Frame (· ∈ [Part.v x, .v Reg.vf, .pc, .outcome]) s t) ∧
    (∃ t, exec (.shlVxVy x y) s = .next t ∧ Advanced 2 s t ∧
      (x ≠ Reg.vf → (t.getV x).toNat = (s.getV x).toNat * 2 % 256 ∧ (t.getV Reg.vf).toNat = (s.getV x).toNat / 128) ∧
      (x = Reg.vf → (t.getV Reg.vf).toNat = (if 128 ≤ (s.getV Reg.vf).toNat then 2 else 0)) ∧
      Frame (· ∈ [Part.v x, .v Reg.vf, .pc, .outcome]) s t)

/-- RND_VX_NN: some byte r of the random source AND nn, where every r is possible, so that no bit outside nn is ever set;
one byte of the source is used up (R211; D20, log entry 9). -/
def Obligations.RndMasksAnArbitraryByte : Prop :=
  ∀ (x : Reg) (nn : Byte) (s : State),
    (∃ t, exec (.rndVxNn x nn) s = .next t ∧ Advanced 2 s t ∧ t.getV x = s.randomByte &&& nn ∧
      (∀ k < 8, (t.getV x).getLsbD k = true → nn.getLsbD k = true) ∧
      t.inputs = { s.inputs with randomBytes := s.inputs.randomBytes.tail } ∧
      Frame (· ∈ [Part.v x, .pc, .inputs, .outcome]) s t) ∧
    (∀ r : Byte, ∃ u t : State, Frame (· = Part.inputs) s u ∧ exec (.rndVxNn x nn) u = .next t ∧
      t.getV x = r &&& nn)

/-! ### The index register and memory -/

/-- R240: LD_I_ADDR sets I to nnn. -/
def Obligations.LdIAddrSetsIndex : Prop :=
  ∀ (nnn : Addr) (s : State), ∃ t, exec (.ldIAddr nnn) s = .next t ∧ t.i.toNat = nnn.toNat ∧ Advanced 2 s t ∧
    Frame (· ∈ [Part.i, .pc, .outcome]) s t

/-- ADD_I_VX adds modulo 65536, with no flag and no bound (R241; D8, D23, log entries 19 and 34). -/
def Obligations.AddIWrapsAt16Bits : Prop :=
  ∀ (x : Reg) (s : State), ∃ t, exec (.addIVx x) s = .next t ∧
    t.i.toNat = (s.i.toNat + (s.getV x).toNat) % 65536 ∧ Advanced 2 s t ∧ Frame (· ∈ [Part.i, .pc, .outcome]) s t

/-- R242: LD_F_VX sets I to 5 V[x] for a digit, and otherwise takes InvalidDigit. -/
def Obligations.LdFPointsAtGlyph : Prop :=
  ∀ (x : Reg) (s : State),
    ((s.getV x).toNat ≤ 0xF → ∃ t, exec (.ldFVx x) s = .next t ∧ t.i.toNat = (s.getV x).toNat * 5 ∧
      Advanced 2 s t ∧ Frame (· ∈ [Part.i, .pc, .outcome]) s t) ∧
    ((s.getV x).toNat > 0xF → ∃ t, exec (.ldFVx x) s = .next t ∧ Faulted (.invalidDigit (s.getV x) s.pc) s t)

/-- LD_B_VX stores the hundreds, tens and ones of V[x] at I, I + 1, I + 2 and changes no other byte; past 4095 it takes
MemoryOutOfBounds and stores nothing (R243; digit order by D26, checks first by D10, log entries 17 and 20). -/
def Obligations.LdBStoresDecimalDigits : Prop :=
  ∀ (x : Reg) (s : State),
    (MemCanonical s → s.i.toNat + 2 ≤ 4095 → ∃ t, exec (.ldBVx x) s = .next t ∧ Advanced 2 s t ∧
      (t.readMem s.i.toNat).toNat = (s.getV x).toNat / 100 ∧
      (t.readMem (s.i.toNat + 1)).toNat = (s.getV x).toNat / 10 % 10 ∧
      (t.readMem (s.i.toNat + 2)).toNat = (s.getV x).toNat % 10 ∧
      Frame (fun p => p ∈ [Part.pc, .outcome] ∨ ∃ k ≤ 2, p = .mem (s.i.toNat + k)) s t) ∧
    (s.i.toNat + 2 > 4095 → ∃ t, exec (.ldBVx x) s = .next t ∧ Faulted (.memoryOutOfBounds s.i s.pc) s t)

/-- LD_I_VX stores V0 to Vx at I to I + x, changes no other byte and keeps I; past 4095 it takes MemoryOutOfBounds and
stores nothing (R244; D10, D23, log entries 17 and 19). -/
def Obligations.LdIVxStoresRegisterBlock : Prop :=
  ∀ (x : Reg) (s : State),
    (MemCanonical s → s.i.toNat + x.val ≤ 4095 → ∃ t, exec (.ldIVx x) s = .next t ∧ Advanced 2 s t ∧
      (∀ k : Reg, k ≤ x → t.readMem (s.i.toNat + k.val) = s.getV k) ∧
      Frame (fun p => p ∈ [Part.pc, .outcome] ∨ ∃ k ≤ x.val, p = .mem (s.i.toNat + k)) s t) ∧
    (s.i.toNat + x.val > 4095 → ∃ t, exec (.ldIVx x) s = .next t ∧ Faulted (.memoryOutOfBounds s.i s.pc) s t)

/-- LD_VX_I loads V0 to Vx from I to I + x and keeps the other registers, memory and I; past 4095 it takes
MemoryOutOfBounds and loads nothing (R245; D10, D23, log entries 17 and 19). -/
def Obligations.LdVxILoadsRegisterBlock : Prop :=
  ∀ (x : Reg) (s : State),
    (s.i.toNat + x.val ≤ 4095 → ∃ t, exec (.ldVxI x) s = .next t ∧ Advanced 2 s t ∧
      (∀ k : Reg, k ≤ x → t.getV k = s.readMem (s.i.toNat + k.val)) ∧
      Frame (fun p => p ∈ [Part.pc, .outcome] ∨ ∃ k ≤ x, p = .v k) s t) ∧
    (s.i.toNat + x.val > 4095 → ∃ t, exec (.ldVxI x) s = .next t ∧ Faulted (.memoryOutOfBounds s.i s.pc) s t)

/-- A block stored over the next opcode is what the next step decodes (20_memory.md R73, 70_reset_and_hazards.md R367,
derived there). -/
def Obligations.StoreIsSeenByNextFetch : Prop :=
  ∀ (x a : Reg) (s t : State) (o : Word) (i : Instr), MemCanonical s → s.halted = false →
    s.i.toNat + x.val ≤ 4095 → s.pc.toNat ≤ 4092 → s.i.toNat + a.val = s.pc.toNat + 2 → a < x →
    exec (.ldIVx x) s = .next t →
    o.toNat = (s.getV a).toNat * 256 + (s.getV (a + 1)).toNat → disassemble o = .ok i → step t = exec i t

/-! ### The display and the keyboard -/

/-- R272: `drawPixel` XORs the value into one pixel of the display, answers the prior pixel AND the value, and changes no
other pixel. -/
def Obligations.DrawPixelXorsOnePixel : Prop :=
  ∀ (s : State) (x y : Nat) (value : Bool), x < s.cfg.displayW →
    (s.drawPixel x y value).pixel x y = (s.pixel x y ^^ value) ∧
    s.collides x y value = (s.pixel x y && value) ∧
    (∀ x' y', x' < s.cfg.displayW → (x', y') ≠ (x, y) → (s.drawPixel x y value).pixel x' y' = s.pixel x' y')

/-- R280: CLS calls `clearDisplay()` once, after which no pixel is set, and changes no other CPU state than PC. -/
def Obligations.ClsClearsDisplay : Prop :=
  ∀ s : State, ∃ t, exec .cls s = .next t ∧ Advanced 2 s t ∧ t.calls = .clearDisplay :: s.calls ∧
    (∀ x y, t.pixel x y = false) ∧ Frame (· ∈ [Part.pc, .outcome, .display, .calls]) s t

/-- DRW_VX_VY_N makes its 8 n calls row by row and left to right with wrapped coordinates, XORs exactly the sprite's set
bits into the display, sets VF to whether one of them met a set pixel, and changes nothing else; with I + n above 4095 it
takes MemoryOutOfBounds and makes no call (R281; D3, D6, D7, log entries 5, 16 and 18). -/
def Obligations.DrwXorsWrappedSprite : Prop :=
  ∀ (x y : Reg) (n : Nibble) (s : State), spriteFits s →
    (s.i.toNat + n.toNat ≤ 4095 → ∃ t, exec (.drwVxVyN x y n) s = .next t ∧ Advanced 2 s t ∧
      t.calls = ((List.range n.toNat).flatMap fun r => (List.range 8).map fun c =>
        PeripheralCall.drawPixel (((s.getV x).toNat + c) % s.cfg.displayW) (((s.getV y).toNat + r) % s.cfg.displayH)
          (spriteBit s r c)).reverse ++ s.calls ∧
      (∀ r < n.toNat, ∀ c < 8,
        t.pixel (((s.getV x).toNat + c) % s.cfg.displayW) (((s.getV y).toNat + r) % s.cfg.displayH) =
          (s.pixel (((s.getV x).toNat + c) % s.cfg.displayW) (((s.getV y).toNat + r) % s.cfg.displayH) ^^
            spriteBit s r c)) ∧
      (∀ px py, px < s.cfg.displayW →
        (∀ r < n.toNat, ∀ c < 8, (px, py) ≠
          (((s.getV x).toNat + c) % s.cfg.displayW, ((s.getV y).toNat + r) % s.cfg.displayH)) →
        t.pixel px py = s.pixel px py) ∧
      ((∃ r < n.toNat, ∃ c < 8, spriteBit s r c = true ∧
        s.pixel (((s.getV x).toNat + c) % s.cfg.displayW) (((s.getV y).toNat + r) % s.cfg.displayH) = true) →
        t.getV Reg.vf = 1) ∧
      ((∀ r < n.toNat, ∀ c < 8, spriteBit s r c = true →
        s.pixel (((s.getV x).toNat + c) % s.cfg.displayW) (((s.getV y).toNat + r) % s.cfg.displayH) = false) →
        t.getV Reg.vf = 0) ∧
      Frame (· ∈ [Part.v Reg.vf, .pc, .outcome, .display, .calls]) s t) ∧
    (s.i.toNat + n.toNat > 4095 → ∃ t, exec (.drwVxVyN x y n) s = .next t ∧
      Faulted (.memoryOutOfBounds s.i s.pc) s t)

/-- Drawing the same sprite twice at the same place restores the display, and from a clear display the second draw sets VF
exactly when the sprite has a set bit (R281, its corner cases; D3, D6, log entries 5 and 18). -/
def Obligations.DrwTwiceCancels : Prop :=
  ∀ (x y : Reg) (n : Nibble) (s t u : State), x ≠ Reg.vf → y ≠ Reg.vf → s.i.toNat + n.toNat ≤ 4095 →
    exec (.drwVxVyN x y n) s = .next t → exec (.drwVxVyN x y n) t = .next u →
    u.display = s.display ∧
    (spriteFits s → s.display = 0 →
      t.getV Reg.vf = 0 ∧
      ((∃ r < n.toNat, ∃ c < 8, spriteBit s r c = true) ↔ u.getV Reg.vf = 1) ∧
      ((∀ r < n.toNat, ∀ c < 8, spriteBit s r c = false) ↔ u.getV Reg.vf = 0))

/-- SKP and SKNP call `getKeys()` once and skip by bit k of the answer for a key k up to 15; for a k above 15 they skip by
a free Boolean that is then used up under draw, and under not_pressed as if not pressed. The reference peripheral answers
its key-held mask each time (R282, R283, R278; D12, log entries 8, 9 and 40). -/
def Obligations.KeySkipsTestOneKey : Prop :=
  ∀ (x : Reg) (s : State), ∃ pressed : Bool,
    ((s.getV x).toNat ≤ 15 → pressed = s.keyMask.getLsbD (s.getV x).toNat) ∧
    (∀ pad, s.inputs.keypad = some pad → (s.getV x).toNat ≤ 15 → pressed = pad.held.getLsbD (s.getV x).toNat) ∧
    ((s.getV x).toNat > 15 → s.cfg.keyOorPolicy = .notPressed → pressed = false) ∧
    ((s.getV x).toNat > 15 → s.cfg.keyOorPolicy = .draw → pressed = s.pressedBit) ∧
    (∃ t, exec (.skpVx x) s = .next t ∧ Advanced (if pressed then 4 else 2) s t ∧ t.calls = .getKeys :: s.calls ∧
      t.inputs = inputsAfterKeyTest s x ∧ Frame (· ∈ [Part.pc, .outcome, .calls, .inputs]) s t) ∧
    (∃ t, exec (.sknpVx x) s = .next t ∧ Advanced (if pressed then 2 else 4) s t ∧ t.calls = .getKeys :: s.calls ∧
      t.inputs = inputsAfterKeyTest s x ∧ Frame (· ∈ [Part.pc, .outcome, .calls, .inputs]) s t)

/-- The key wait calls `waitKey()` once; on none it is a Retry with PC and every register unchanged, and on a key it
writes the key's number and advances. The reference peripheral answers with its most recent press and loses it (R284,
R278; D13, log entries 9, 36 and 40). -/
def Obligations.KeyWaitRetriesOrLoadsKey : Prop :=
  ∀ (x : Reg) (s : State),
    (∀ pad, s.inputs.keypad = some pad → s.keyPress = pad.presses.head?) ∧
    (s.keyPress = none → ∃ t, exec (.ldVxN x) s = .next t ∧ t.outcome = some .retry ∧ t.calls = .waitKey :: s.calls ∧
      t.inputs = inputsAfterKeyWait s ∧
      Frame (· ∈ [Part.outcome, .calls, .inputs]) s t) ∧
    (∀ k : Fin 16, s.keyPress = some k → ∃ t, exec (.ldVxN x) s = .next t ∧ (t.getV x).toNat = k.val ∧
      Advanced 2 s t ∧ t.calls = .waitKey :: s.calls ∧
      t.inputs = inputsAfterKeyWait s ∧
      Frame (· ∈ [Part.v x, .pc, .outcome, .calls, .inputs]) s t)

/-! ### The timers -/

/-- R300, R301: LD_VX_DT reads the delay timer without changing it, and LD_DT_VX writes it. -/
def Obligations.DelayTimerReadAndWrite : Prop :=
  ∀ (x : Reg) (s : State),
    (∃ t, exec (.ldVxDt x) s = .next t ∧ t.getV x = s.dt ∧ Advanced 2 s t ∧
      Frame (· ∈ [Part.v x, .pc, .outcome]) s t) ∧
    (∃ t, exec (.ldDtVx x) s = .next t ∧ t.dt = s.getV x ∧ Advanced 2 s t ∧
      Frame (· ∈ [Part.dt, .pc, .outcome]) s t)

/-- LD_ST_VX writes the sound timer; above 0 it sets the latch and calls `enableSound()` exactly once, and for 0 it makes
no call and keeps the latch (R302; D14, D32, log entry 23). -/
def Obligations.LdStEnablesSound : Prop :=
  ∀ (x : Reg) (s : State),
    ((s.getV x).toNat > 0 → ∃ t, exec (.ldStVx x) s = .next t ∧ t.st = s.getV x ∧ t.soundEnabled = true ∧
      t.audible = true ∧ t.calls = .enableSound :: s.calls ∧ Advanced 2 s t ∧
      Frame (· ∈ [Part.st, .soundEnabled, .audible, .calls, .pc, .outcome]) s t) ∧
    ((s.getV x).toNat = 0 → ∃ t, exec (.ldStVx x) s = .next t ∧ t.st = 0 ∧ Advanced 2 s t ∧
      Frame (· ∈ [Part.st, .pc, .outcome]) s t)

/-! ### The host's operations -/

/-- A tick lowers each timer that is above 0 by one, and when ST is then 0 with the latch set clears the latch and calls
`disableSound()` once; halted or not, nothing else changes (R332; D14, D15, log entry 23). -/
def Obligations.TickCountsDownAndSilences : Prop :=
  ∀ s : State,
    (tick s).dt.toNat = s.dt.toNat - 1 ∧ (tick s).st.toNat = s.st.toNat - 1 ∧
    (s.st.toNat ≤ 1 ∧ s.soundEnabled = true → (tick s).soundEnabled = false ∧ (tick s).audible = false ∧
      (tick s).calls = .disableSound :: s.calls) ∧
    (¬ (s.st.toNat ≤ 1 ∧ s.soundEnabled = true) → Frame (· ∈ [Part.dt, .st]) s (tick s)) ∧
    Frame (· ∈ [Part.dt, .st, .soundEnabled, .audible, .calls]) s (tick s)

/-- However often the host ticks, DT stops at 0, and a sound that was on is silenced exactly once, at the tick that finds
ST = 0 (10_state.md R39, R299, R332; the latch is D14's, log entry 23). -/
def Obligations.SoundIsSilencedExactlyOnce : Prop :=
  ∀ (k : Nat) (s : State), (ticks k s).dt.toNat = s.dt.toNat - k ∧ (ticks k s).st.toNat = s.st.toNat - k ∧
    callCount .disableSound (ticks k s) = callCount .disableSound s +
      (if s.soundEnabled = true ∧ 1 ≤ k ∧ s.st.toNat ≤ k then 1 else 0) ∧
    callCount .enableSound (ticks k s) = callCount .enableSound s

/-- `load` of at most 3584 bytes clears memory, registers, stack and timers, reseeds the font, copies the ROM to 0x200 and
runs, from any state; it keeps the latch, makes no call and leaves the peripheral alone. A longer ROM is refused and
nothing changes (R361, R322; D16, D18, D33, log entries 24 and 25). -/
def Obligations.LoadResetsAndCopiesRom : Prop :=
  (∀ (rom : List Byte) (s : State), 3584 < rom.length → load rom s = .refused .romTooLong ∧ after (.load rom) s = s) ∧
  ∀ (rom : List Byte) (s : State), rom.length ≤ 3584 → ∃ t, load rom s = .next t ∧
    (∀ a < 4096, t.readMem a =
      if 0x200 ≤ a ∧ a < 0x200 + rom.length then rom.getD (a - 0x200) 0
      else if a < 80 then s.cfg.font.getD a 0 else 0) ∧
    (∀ r, t.getV r = 0) ∧ t.i = 0 ∧ t.sp = -1 ∧ (∀ k : Fin 16, t.stack[k] = 0) ∧ t.dt = 0 ∧ t.st = 0 ∧
    t.pc = 0x200 ∧ t.halted = false ∧
    (∀ p ∈ [Part.soundEnabled, .cfg, .display, .audible, .inputs, .calls], p.same s t)

/-- R149: `halt()` sets halted, changes nothing else, is idempotent, and the next step is AlreadyHalted. -/
def Obligations.HaltIsIdempotent : Prop :=
  ∀ s : State, (halt s).halted = true ∧ Frame (· = Part.halted) s (halt s) ∧ halt (halt s) = halt s ∧
    step (halt s) = .fault .alreadyHalted

/-- The machine is halted at power-on; only a load that is not refused makes it run, a fatal fault and `halt()` halt it,
and no other operation changes whether it runs (R141). That a load of more than 3584 bytes is the refused one, and
changes nothing, is the spec's choice (R322; D18, log entry 25). -/
def Obligations.HaltedChangesOnlyByTheseOperations : Prop :=
  State.reset.halted = true ∧
  ∀ s : State,
    (∀ rom : List Byte, (rom.length ≤ 3584 → (after (.load rom) s).halted = false) ∧
      (3584 < rom.length → after (.load rom) s = s)) ∧
    (after .halt s).halted = true ∧ (after .tick s).halted = s.halted ∧
    (s.halted = true → (after .step s).halted = true) ∧
    (FaultHalts s → s.halted = false →
      ((after .step s).halted = true ↔ ∃ info, (after .step s).outcome = some (.faulted info)))

/-- Until a load, a halted machine keeps its fault record, its PC, its registers and its memory: only ticks change
anything, and only the timers and the sound (R325, R326, R327; the record is log entry 12). -/
def Obligations.HaltedMachineIsFrozenUntilLoad : Prop :=
  ∀ (ops : List HostOp) (s : State), s.halted = true → (∀ rom, HostOp.load rom ∉ ops) →
    Frame (· ∈ [Part.dt, .st, .soundEnabled, .audible, .calls]) s (runOps ops s)

/-- The values at power-on (10_state.md R46; all but `halted` are D17's choice, and the display, inputs and records are
the model's, log entries 9 to 13). -/
def Obligations.PowerOnState : Prop :=
  State.reset.halted = true ∧ State.reset.pc = 0x200 ∧ State.reset.sp = -1 ∧ State.reset.i = 0 ∧
  (∀ r, State.reset.getV r = 0) ∧ (∀ k : Fin 16, State.reset.stack[k] = 0) ∧ State.reset.dt = 0 ∧
  State.reset.st = 0 ∧ State.reset.soundEnabled = false ∧
  (∀ a < 4096, State.reset.readMem a = if a < 80 then Config.defaultFont.getD a 0 else 0)

/-! ### Rules of the whole machine -/

/-- A register changes only as the named destination of an instruction, or, for VF, as the flag of one of the six
flag-writing instructions (10_state.md R31, R32; D23, log entry 19). -/
def Obligations.RegistersChangeOnlyAsNamed : Prop :=
  ∀ (i : Instr) (s t : State) (r : Reg), exec i s = .next t → ¬ isDestination r i → ¬ (r = Reg.vf ∧ writesFlag i) →
    t.getV r = s.getV r

/-- Only DRW, LD_B_VX, LD_I_VX and LD_VX_I reach memory in their execute stage: any other instruction does the same with
any other memory in its place, and leaves that memory as it is (20_memory.md R61). -/
def Obligations.OnlyFourInstructionsReachMemory : Prop :=
  ∀ (i : Instr) (s t : State) (m : Memory), ¬ reachesMemory i → exec i s = .next t →
    t.mem = s.mem ∧ exec i { s with mem := m } = .next { t with mem := m }

/-- Only LD_B_VX and LD_I_VX change a byte of memory, only at I and above within their length, and never past 4095
(20_memory.md R61, R62, R65). -/
def Obligations.StoresStayInTheirRange : Prop :=
  ∀ (i : Instr) (s t : State) (a : Nat), exec i s = .next t → t.readMem a ≠ s.readMem a →
    s.i.toNat ≤ a ∧ a ≤ 4095 ∧ ∃ x : Reg, (i = .ldBVx x ∧ a ≤ s.i.toNat + 2) ∨ (i = .ldIVx x ∧ a ≤ s.i.toNat + x.val)

/-- The calls each operation makes: instructions outside the table of R276 and steps that fault make none, and every
record of calls only grows (44_peripheral.md R276; D6, D10, D16, log entries 17, 18 and 24). -/
def Obligations.OnlyListedOperationsMakeCalls : Prop :=
  (∀ (i : Instr) (s t : State), exec i s = .next t → ¬ makesCall i → t.calls = s.calls) ∧
  (∀ (x : Reg) (s t : State), exec (.ldStVx x) s = .next t → s.getV x = 0 → t.calls = s.calls) ∧
  (∀ (s t : State) (info : FaultInfo), s.halted = false → step s = .next t → t.outcome = some (.faulted info) →
    t.calls = s.calls) ∧
  (∀ (rom : List Byte) (s : State), (after (.load rom) s).calls = s.calls) ∧
  (∀ s : State, (after .halt s).calls = s.calls) ∧
  (∀ (op : HostOp) (s : State), ∃ new, (after op s).calls = new ++ s.calls)

/-- No operation changes the configuration (00_scope.md R7; log entry 2). -/
def Obligations.ConfigurationIsFixed : Prop :=
  ∀ (ops : List HostOp) (s : State), (runOps ops s).cfg = s.cfg

/-! ### Invariants -/

/-- The invariants hold at power-on (10_state.md R46; the display and the records are the model's, log entries 10 to
12). -/
def Obligations.InvariantsHoldAtPowerOn : Prop := Inv State.reset

/-- A step keeps all the invariants: canonical memory, PC at most 0x10FE, the sound latch, a fault on record halts, no
pixel outside the display (10_state.md R34, R39, R41; 60_exceptions.md R324; the invariant is derived). -/
def Obligations.StepKeepsInvariants : Prop := ∀ s t : State, Inv s → step s = .next t → Inv t

/-- Every series of the host's four operations, in any order, keeps all the invariants (40_cycle.md R140, R152; the
invariant is derived). -/
def Obligations.HostRunsKeepInvariants : Prop := ∀ (ops : List HostOp) (s : State), Inv s → Inv (runOps ops s)
end

