-- ==== Sys2Proof/Laws/State.lean ====
section
/-! SUPPORT. One lemma per field per update: what each named operation does to each field of State, true by rfl. Then the
same for the reads getV, readMem and sp. -/

namespace Sys2Proof.Machine

variable (s : State)

/-! ### setV -/

@[simp] theorem State.setV_mem (x : Reg) (b : Byte) : (s.setV x b).mem = s.mem := rfl
@[simp] theorem State.setV_v (x : Reg) (b : Byte) : (s.setV x b).v = s.v.set x b := rfl
@[simp] theorem State.setV_i (x : Reg) (b : Byte) : (s.setV x b).i = s.i := rfl
@[simp] theorem State.setV_pc (x : Reg) (b : Byte) : (s.setV x b).pc = s.pc := rfl
@[simp] theorem State.setV_depth (x : Reg) (b : Byte) : (s.setV x b).depth = s.depth := rfl
@[simp] theorem State.setV_stack (x : Reg) (b : Byte) : (s.setV x b).stack = s.stack := rfl
@[simp] theorem State.setV_dt (x : Reg) (b : Byte) : (s.setV x b).dt = s.dt := rfl
@[simp] theorem State.setV_st (x : Reg) (b : Byte) : (s.setV x b).st = s.st := rfl
@[simp] theorem State.setV_halted (x : Reg) (b : Byte) : (s.setV x b).halted = s.halted := rfl
@[simp] theorem State.setV_soundEnabled (x : Reg) (b : Byte) : (s.setV x b).soundEnabled = s.soundEnabled := rfl
@[simp] theorem State.setV_cfg (x : Reg) (b : Byte) : (s.setV x b).cfg = s.cfg := rfl
@[simp] theorem State.setV_display (x : Reg) (b : Byte) : (s.setV x b).display = s.display := rfl
@[simp] theorem State.setV_audible (x : Reg) (b : Byte) : (s.setV x b).audible = s.audible := rfl
@[simp] theorem State.setV_inputs (x : Reg) (b : Byte) : (s.setV x b).inputs = s.inputs := rfl
@[simp] theorem State.setV_calls (x : Reg) (b : Byte) : (s.setV x b).calls = s.calls := rfl
@[simp] theorem State.setV_outcome (x : Reg) (b : Byte) : (s.setV x b).outcome = s.outcome := rfl
@[simp] theorem State.setV_readMem (x : Reg) (b : Byte) (k : Nat) : (s.setV x b).readMem k = s.readMem k := rfl
@[simp] theorem State.setV_sp (x : Reg) (b : Byte) : (s.setV x b).sp = s.sp := rfl

/-! ### setI -/

@[simp] theorem State.setI_mem (w : Word) : (s.setI w).mem = s.mem := rfl
@[simp] theorem State.setI_v (w : Word) : (s.setI w).v = s.v := rfl
@[simp] theorem State.setI_i (w : Word) : (s.setI w).i = w := rfl
@[simp] theorem State.setI_pc (w : Word) : (s.setI w).pc = s.pc := rfl
@[simp] theorem State.setI_depth (w : Word) : (s.setI w).depth = s.depth := rfl
@[simp] theorem State.setI_stack (w : Word) : (s.setI w).stack = s.stack := rfl
@[simp] theorem State.setI_dt (w : Word) : (s.setI w).dt = s.dt := rfl
@[simp] theorem State.setI_st (w : Word) : (s.setI w).st = s.st := rfl
@[simp] theorem State.setI_halted (w : Word) : (s.setI w).halted = s.halted := rfl
@[simp] theorem State.setI_soundEnabled (w : Word) : (s.setI w).soundEnabled = s.soundEnabled := rfl
@[simp] theorem State.setI_cfg (w : Word) : (s.setI w).cfg = s.cfg := rfl
@[simp] theorem State.setI_display (w : Word) : (s.setI w).display = s.display := rfl
@[simp] theorem State.setI_audible (w : Word) : (s.setI w).audible = s.audible := rfl
@[simp] theorem State.setI_inputs (w : Word) : (s.setI w).inputs = s.inputs := rfl
@[simp] theorem State.setI_calls (w : Word) : (s.setI w).calls = s.calls := rfl
@[simp] theorem State.setI_outcome (w : Word) : (s.setI w).outcome = s.outcome := rfl
@[simp] theorem State.setI_getV (w : Word) (r : Reg) : (s.setI w).getV r = s.getV r := rfl
@[simp] theorem State.setI_readMem (w : Word) (k : Nat) : (s.setI w).readMem k = s.readMem k := rfl
@[simp] theorem State.setI_sp (w : Word) : (s.setI w).sp = s.sp := rfl

/-! ### setDt -/

@[simp] theorem State.setDt_mem (b : Byte) : (s.setDt b).mem = s.mem := rfl
@[simp] theorem State.setDt_v (b : Byte) : (s.setDt b).v = s.v := rfl
@[simp] theorem State.setDt_i (b : Byte) : (s.setDt b).i = s.i := rfl
@[simp] theorem State.setDt_pc (b : Byte) : (s.setDt b).pc = s.pc := rfl
@[simp] theorem State.setDt_depth (b : Byte) : (s.setDt b).depth = s.depth := rfl
@[simp] theorem State.setDt_stack (b : Byte) : (s.setDt b).stack = s.stack := rfl
@[simp] theorem State.setDt_dt (b : Byte) : (s.setDt b).dt = b := rfl
@[simp] theorem State.setDt_st (b : Byte) : (s.setDt b).st = s.st := rfl
@[simp] theorem State.setDt_halted (b : Byte) : (s.setDt b).halted = s.halted := rfl
@[simp] theorem State.setDt_soundEnabled (b : Byte) : (s.setDt b).soundEnabled = s.soundEnabled := rfl
@[simp] theorem State.setDt_cfg (b : Byte) : (s.setDt b).cfg = s.cfg := rfl
@[simp] theorem State.setDt_display (b : Byte) : (s.setDt b).display = s.display := rfl
@[simp] theorem State.setDt_audible (b : Byte) : (s.setDt b).audible = s.audible := rfl
@[simp] theorem State.setDt_inputs (b : Byte) : (s.setDt b).inputs = s.inputs := rfl
@[simp] theorem State.setDt_calls (b : Byte) : (s.setDt b).calls = s.calls := rfl
@[simp] theorem State.setDt_outcome (b : Byte) : (s.setDt b).outcome = s.outcome := rfl
@[simp] theorem State.setDt_getV (b : Byte) (r : Reg) : (s.setDt b).getV r = s.getV r := rfl
@[simp] theorem State.setDt_readMem (b : Byte) (k : Nat) : (s.setDt b).readMem k = s.readMem k := rfl
@[simp] theorem State.setDt_sp (b : Byte) : (s.setDt b).sp = s.sp := rfl

/-! ### setSt -/

@[simp] theorem State.setSt_mem (b : Byte) : (s.setSt b).mem = s.mem := rfl
@[simp] theorem State.setSt_v (b : Byte) : (s.setSt b).v = s.v := rfl
@[simp] theorem State.setSt_i (b : Byte) : (s.setSt b).i = s.i := rfl
@[simp] theorem State.setSt_pc (b : Byte) : (s.setSt b).pc = s.pc := rfl
@[simp] theorem State.setSt_depth (b : Byte) : (s.setSt b).depth = s.depth := rfl
@[simp] theorem State.setSt_stack (b : Byte) : (s.setSt b).stack = s.stack := rfl
@[simp] theorem State.setSt_dt (b : Byte) : (s.setSt b).dt = s.dt := rfl
@[simp] theorem State.setSt_st (b : Byte) : (s.setSt b).st = b := rfl
@[simp] theorem State.setSt_halted (b : Byte) : (s.setSt b).halted = s.halted := rfl
@[simp] theorem State.setSt_soundEnabled (b : Byte) : (s.setSt b).soundEnabled = s.soundEnabled := rfl
@[simp] theorem State.setSt_cfg (b : Byte) : (s.setSt b).cfg = s.cfg := rfl
@[simp] theorem State.setSt_display (b : Byte) : (s.setSt b).display = s.display := rfl
@[simp] theorem State.setSt_audible (b : Byte) : (s.setSt b).audible = s.audible := rfl
@[simp] theorem State.setSt_inputs (b : Byte) : (s.setSt b).inputs = s.inputs := rfl
@[simp] theorem State.setSt_calls (b : Byte) : (s.setSt b).calls = s.calls := rfl
@[simp] theorem State.setSt_outcome (b : Byte) : (s.setSt b).outcome = s.outcome := rfl
@[simp] theorem State.setSt_getV (b : Byte) (r : Reg) : (s.setSt b).getV r = s.getV r := rfl
@[simp] theorem State.setSt_readMem (b : Byte) (k : Nat) : (s.setSt b).readMem k = s.readMem k := rfl
@[simp] theorem State.setSt_sp (b : Byte) : (s.setSt b).sp = s.sp := rfl

/-! ### writeMem -/

@[simp] theorem State.writeMem_mem (a : Nat) (b : Byte) : (s.writeMem a b).mem = Memory.write s.cfg.font s.mem a b := rfl
@[simp] theorem State.writeMem_v (a : Nat) (b : Byte) : (s.writeMem a b).v = s.v := rfl
@[simp] theorem State.writeMem_i (a : Nat) (b : Byte) : (s.writeMem a b).i = s.i := rfl
@[simp] theorem State.writeMem_pc (a : Nat) (b : Byte) : (s.writeMem a b).pc = s.pc := rfl
@[simp] theorem State.writeMem_depth (a : Nat) (b : Byte) : (s.writeMem a b).depth = s.depth := rfl
@[simp] theorem State.writeMem_stack (a : Nat) (b : Byte) : (s.writeMem a b).stack = s.stack := rfl
@[simp] theorem State.writeMem_dt (a : Nat) (b : Byte) : (s.writeMem a b).dt = s.dt := rfl
@[simp] theorem State.writeMem_st (a : Nat) (b : Byte) : (s.writeMem a b).st = s.st := rfl
@[simp] theorem State.writeMem_halted (a : Nat) (b : Byte) : (s.writeMem a b).halted = s.halted := rfl
@[simp] theorem State.writeMem_soundEnabled (a : Nat) (b : Byte) : (s.writeMem a b).soundEnabled = s.soundEnabled := rfl
@[simp] theorem State.writeMem_cfg (a : Nat) (b : Byte) : (s.writeMem a b).cfg = s.cfg := rfl
@[simp] theorem State.writeMem_display (a : Nat) (b : Byte) : (s.writeMem a b).display = s.display := rfl
@[simp] theorem State.writeMem_audible (a : Nat) (b : Byte) : (s.writeMem a b).audible = s.audible := rfl
@[simp] theorem State.writeMem_inputs (a : Nat) (b : Byte) : (s.writeMem a b).inputs = s.inputs := rfl
@[simp] theorem State.writeMem_calls (a : Nat) (b : Byte) : (s.writeMem a b).calls = s.calls := rfl
@[simp] theorem State.writeMem_outcome (a : Nat) (b : Byte) : (s.writeMem a b).outcome = s.outcome := rfl
@[simp] theorem State.writeMem_getV (a : Nat) (b : Byte) (r : Reg) : (s.writeMem a b).getV r = s.getV r := rfl
@[simp] theorem State.writeMem_sp (a : Nat) (b : Byte) : (s.writeMem a b).sp = s.sp := rfl

/-! ### jump -/

@[simp] theorem State.jump_mem (w : Word) : (s.jump w).mem = s.mem := rfl
@[simp] theorem State.jump_v (w : Word) : (s.jump w).v = s.v := rfl
@[simp] theorem State.jump_i (w : Word) : (s.jump w).i = s.i := rfl
@[simp] theorem State.jump_pc (w : Word) : (s.jump w).pc = w := rfl
@[simp] theorem State.jump_depth (w : Word) : (s.jump w).depth = s.depth := rfl
@[simp] theorem State.jump_stack (w : Word) : (s.jump w).stack = s.stack := rfl
@[simp] theorem State.jump_dt (w : Word) : (s.jump w).dt = s.dt := rfl
@[simp] theorem State.jump_st (w : Word) : (s.jump w).st = s.st := rfl
@[simp] theorem State.jump_halted (w : Word) : (s.jump w).halted = s.halted := rfl
@[simp] theorem State.jump_soundEnabled (w : Word) : (s.jump w).soundEnabled = s.soundEnabled := rfl
@[simp] theorem State.jump_cfg (w : Word) : (s.jump w).cfg = s.cfg := rfl
@[simp] theorem State.jump_display (w : Word) : (s.jump w).display = s.display := rfl
@[simp] theorem State.jump_audible (w : Word) : (s.jump w).audible = s.audible := rfl
@[simp] theorem State.jump_inputs (w : Word) : (s.jump w).inputs = s.inputs := rfl
@[simp] theorem State.jump_calls (w : Word) : (s.jump w).calls = s.calls := rfl
@[simp] theorem State.jump_outcome (w : Word) : (s.jump w).outcome = some .executed := rfl
@[simp] theorem State.jump_getV (w : Word) (r : Reg) : (s.jump w).getV r = s.getV r := rfl
@[simp] theorem State.jump_readMem (w : Word) (k : Nat) : (s.jump w).readMem k = s.readMem k := rfl
@[simp] theorem State.jump_sp (w : Word) : (s.jump w).sp = s.sp := rfl

/-! ### next -/

@[simp] theorem State.next_mem : s.next.mem = s.mem := rfl
@[simp] theorem State.next_v : s.next.v = s.v := rfl
@[simp] theorem State.next_i : s.next.i = s.i := rfl
@[simp] theorem State.next_pc : s.next.pc = s.pc + 2 := rfl
@[simp] theorem State.next_depth : s.next.depth = s.depth := rfl
@[simp] theorem State.next_stack : s.next.stack = s.stack := rfl
@[simp] theorem State.next_dt : s.next.dt = s.dt := rfl
@[simp] theorem State.next_st : s.next.st = s.st := rfl
@[simp] theorem State.next_halted : s.next.halted = s.halted := rfl
@[simp] theorem State.next_soundEnabled : s.next.soundEnabled = s.soundEnabled := rfl
@[simp] theorem State.next_cfg : s.next.cfg = s.cfg := rfl
@[simp] theorem State.next_display : s.next.display = s.display := rfl
@[simp] theorem State.next_audible : s.next.audible = s.audible := rfl
@[simp] theorem State.next_inputs : s.next.inputs = s.inputs := rfl
@[simp] theorem State.next_calls : s.next.calls = s.calls := rfl
@[simp] theorem State.next_outcome : s.next.outcome = some .executed := rfl
@[simp] theorem State.next_getV (r : Reg) : s.next.getV r = s.getV r := rfl
@[simp] theorem State.next_readMem (k : Nat) : s.next.readMem k = s.readMem k := rfl
@[simp] theorem State.next_sp : s.next.sp = s.sp := rfl

/-! ### skip -/

@[simp] theorem State.skip_mem : s.skip.mem = s.mem := rfl
@[simp] theorem State.skip_v : s.skip.v = s.v := rfl
@[simp] theorem State.skip_i : s.skip.i = s.i := rfl
@[simp] theorem State.skip_pc : s.skip.pc = s.pc + 4 := rfl
@[simp] theorem State.skip_depth : s.skip.depth = s.depth := rfl
@[simp] theorem State.skip_stack : s.skip.stack = s.stack := rfl
@[simp] theorem State.skip_dt : s.skip.dt = s.dt := rfl
@[simp] theorem State.skip_st : s.skip.st = s.st := rfl
@[simp] theorem State.skip_halted : s.skip.halted = s.halted := rfl
@[simp] theorem State.skip_soundEnabled : s.skip.soundEnabled = s.soundEnabled := rfl
@[simp] theorem State.skip_cfg : s.skip.cfg = s.cfg := rfl
@[simp] theorem State.skip_display : s.skip.display = s.display := rfl
@[simp] theorem State.skip_audible : s.skip.audible = s.audible := rfl
@[simp] theorem State.skip_inputs : s.skip.inputs = s.inputs := rfl
@[simp] theorem State.skip_calls : s.skip.calls = s.calls := rfl
@[simp] theorem State.skip_outcome : s.skip.outcome = some .executed := rfl
@[simp] theorem State.skip_getV (r : Reg) : s.skip.getV r = s.getV r := rfl
@[simp] theorem State.skip_readMem (k : Nat) : s.skip.readMem k = s.readMem k := rfl
@[simp] theorem State.skip_sp : s.skip.sp = s.sp := rfl

/-! ### retry -/

@[simp] theorem State.retry_mem : s.retry.mem = s.mem := rfl
@[simp] theorem State.retry_v : s.retry.v = s.v := rfl
@[simp] theorem State.retry_i : s.retry.i = s.i := rfl
@[simp] theorem State.retry_pc : s.retry.pc = s.pc := rfl
@[simp] theorem State.retry_depth : s.retry.depth = s.depth := rfl
@[simp] theorem State.retry_stack : s.retry.stack = s.stack := rfl
@[simp] theorem State.retry_dt : s.retry.dt = s.dt := rfl
@[simp] theorem State.retry_st : s.retry.st = s.st := rfl
@[simp] theorem State.retry_halted : s.retry.halted = s.halted := rfl
@[simp] theorem State.retry_soundEnabled : s.retry.soundEnabled = s.soundEnabled := rfl
@[simp] theorem State.retry_cfg : s.retry.cfg = s.cfg := rfl
@[simp] theorem State.retry_display : s.retry.display = s.display := rfl
@[simp] theorem State.retry_audible : s.retry.audible = s.audible := rfl
@[simp] theorem State.retry_inputs : s.retry.inputs = s.inputs := rfl
@[simp] theorem State.retry_calls : s.retry.calls = s.calls := rfl
@[simp] theorem State.retry_outcome : s.retry.outcome = some .retry := rfl
@[simp] theorem State.retry_getV (r : Reg) : s.retry.getV r = s.getV r := rfl
@[simp] theorem State.retry_readMem (k : Nat) : s.retry.readMem k = s.readMem k := rfl
@[simp] theorem State.retry_sp : s.retry.sp = s.sp := rfl

/-! ### raise -/

@[simp] theorem State.raise_mem (info : FaultInfo) : (s.raise info).mem = s.mem := rfl
@[simp] theorem State.raise_v (info : FaultInfo) : (s.raise info).v = s.v := rfl
@[simp] theorem State.raise_i (info : FaultInfo) : (s.raise info).i = s.i := rfl
@[simp] theorem State.raise_pc (info : FaultInfo) : (s.raise info).pc = s.pc := rfl
@[simp] theorem State.raise_depth (info : FaultInfo) : (s.raise info).depth = s.depth := rfl
@[simp] theorem State.raise_stack (info : FaultInfo) : (s.raise info).stack = s.stack := rfl
@[simp] theorem State.raise_dt (info : FaultInfo) : (s.raise info).dt = s.dt := rfl
@[simp] theorem State.raise_st (info : FaultInfo) : (s.raise info).st = s.st := rfl
@[simp] theorem State.raise_halted (info : FaultInfo) : (s.raise info).halted = true := rfl
@[simp] theorem State.raise_soundEnabled (info : FaultInfo) : (s.raise info).soundEnabled = s.soundEnabled := rfl
@[simp] theorem State.raise_cfg (info : FaultInfo) : (s.raise info).cfg = s.cfg := rfl
@[simp] theorem State.raise_display (info : FaultInfo) : (s.raise info).display = s.display := rfl
@[simp] theorem State.raise_audible (info : FaultInfo) : (s.raise info).audible = s.audible := rfl
@[simp] theorem State.raise_inputs (info : FaultInfo) : (s.raise info).inputs = s.inputs := rfl
@[simp] theorem State.raise_calls (info : FaultInfo) : (s.raise info).calls = s.calls := rfl
@[simp] theorem State.raise_outcome (info : FaultInfo) : (s.raise info).outcome = some (.faulted info) := rfl
@[simp] theorem State.raise_getV (info : FaultInfo) (r : Reg) : (s.raise info).getV r = s.getV r := rfl
@[simp] theorem State.raise_readMem (info : FaultInfo) (k : Nat) : (s.raise info).readMem k = s.readMem k := rfl
@[simp] theorem State.raise_sp (info : FaultInfo) : (s.raise info).sp = s.sp := rfl

/-! ### dropTop -/

@[simp] theorem State.dropTop_mem : s.dropTop.mem = s.mem := rfl
@[simp] theorem State.dropTop_v : s.dropTop.v = s.v := rfl
@[simp] theorem State.dropTop_i : s.dropTop.i = s.i := rfl
@[simp] theorem State.dropTop_pc : s.dropTop.pc = s.pc := rfl
@[simp] theorem State.dropTop_depth : s.dropTop.depth = ⟨s.depth.val - 1, by omega⟩ := rfl
@[simp] theorem State.dropTop_stack : s.dropTop.stack = s.stack := rfl
@[simp] theorem State.dropTop_dt : s.dropTop.dt = s.dt := rfl
@[simp] theorem State.dropTop_st : s.dropTop.st = s.st := rfl
@[simp] theorem State.dropTop_halted : s.dropTop.halted = s.halted := rfl
@[simp] theorem State.dropTop_soundEnabled : s.dropTop.soundEnabled = s.soundEnabled := rfl
@[simp] theorem State.dropTop_cfg : s.dropTop.cfg = s.cfg := rfl
@[simp] theorem State.dropTop_display : s.dropTop.display = s.display := rfl
@[simp] theorem State.dropTop_audible : s.dropTop.audible = s.audible := rfl
@[simp] theorem State.dropTop_inputs : s.dropTop.inputs = s.inputs := rfl
@[simp] theorem State.dropTop_calls : s.dropTop.calls = s.calls := rfl
@[simp] theorem State.dropTop_outcome : s.dropTop.outcome = s.outcome := rfl
@[simp] theorem State.dropTop_getV (r : Reg) : s.dropTop.getV r = s.getV r := rfl
@[simp] theorem State.dropTop_readMem (k : Nat) : s.dropTop.readMem k = s.readMem k := rfl

/-! ### takeRandomByte -/

@[simp] theorem State.takeRandomByte_mem : s.takeRandomByte.mem = s.mem := rfl
@[simp] theorem State.takeRandomByte_v : s.takeRandomByte.v = s.v := rfl
@[simp] theorem State.takeRandomByte_i : s.takeRandomByte.i = s.i := rfl
@[simp] theorem State.takeRandomByte_pc : s.takeRandomByte.pc = s.pc := rfl
@[simp] theorem State.takeRandomByte_depth : s.takeRandomByte.depth = s.depth := rfl
@[simp] theorem State.takeRandomByte_stack : s.takeRandomByte.stack = s.stack := rfl
@[simp] theorem State.takeRandomByte_dt : s.takeRandomByte.dt = s.dt := rfl
@[simp] theorem State.takeRandomByte_st : s.takeRandomByte.st = s.st := rfl
@[simp] theorem State.takeRandomByte_halted : s.takeRandomByte.halted = s.halted := rfl
@[simp] theorem State.takeRandomByte_soundEnabled : s.takeRandomByte.soundEnabled = s.soundEnabled := rfl
@[simp] theorem State.takeRandomByte_cfg : s.takeRandomByte.cfg = s.cfg := rfl
@[simp] theorem State.takeRandomByte_display : s.takeRandomByte.display = s.display := rfl
@[simp] theorem State.takeRandomByte_audible : s.takeRandomByte.audible = s.audible := rfl
@[simp] theorem State.takeRandomByte_inputs : s.takeRandomByte.inputs = { s.inputs with randomBytes := s.inputs.randomBytes.tail } := rfl
@[simp] theorem State.takeRandomByte_calls : s.takeRandomByte.calls = s.calls := rfl
@[simp] theorem State.takeRandomByte_outcome : s.takeRandomByte.outcome = s.outcome := rfl
@[simp] theorem State.takeRandomByte_getV (r : Reg) : s.takeRandomByte.getV r = s.getV r := rfl
@[simp] theorem State.takeRandomByte_readMem (k : Nat) : s.takeRandomByte.readMem k = s.readMem k := rfl
@[simp] theorem State.takeRandomByte_sp : s.takeRandomByte.sp = s.sp := rfl

/-! ### takePressedBit -/

@[simp] theorem State.takePressedBit_mem : s.takePressedBit.mem = s.mem := rfl
@[simp] theorem State.takePressedBit_v : s.takePressedBit.v = s.v := rfl
@[simp] theorem State.takePressedBit_i : s.takePressedBit.i = s.i := rfl
@[simp] theorem State.takePressedBit_pc : s.takePressedBit.pc = s.pc := rfl
@[simp] theorem State.takePressedBit_depth : s.takePressedBit.depth = s.depth := rfl
@[simp] theorem State.takePressedBit_stack : s.takePressedBit.stack = s.stack := rfl
@[simp] theorem State.takePressedBit_dt : s.takePressedBit.dt = s.dt := rfl
@[simp] theorem State.takePressedBit_st : s.takePressedBit.st = s.st := rfl
@[simp] theorem State.takePressedBit_halted : s.takePressedBit.halted = s.halted := rfl
@[simp] theorem State.takePressedBit_soundEnabled : s.takePressedBit.soundEnabled = s.soundEnabled := rfl
@[simp] theorem State.takePressedBit_cfg : s.takePressedBit.cfg = s.cfg := rfl
@[simp] theorem State.takePressedBit_display : s.takePressedBit.display = s.display := rfl
@[simp] theorem State.takePressedBit_audible : s.takePressedBit.audible = s.audible := rfl
@[simp] theorem State.takePressedBit_inputs : s.takePressedBit.inputs = { s.inputs with pressedBits := s.inputs.pressedBits.tail } := rfl
@[simp] theorem State.takePressedBit_calls : s.takePressedBit.calls = s.calls := rfl
@[simp] theorem State.takePressedBit_outcome : s.takePressedBit.outcome = s.outcome := rfl
@[simp] theorem State.takePressedBit_getV (r : Reg) : s.takePressedBit.getV r = s.getV r := rfl
@[simp] theorem State.takePressedBit_readMem (k : Nat) : s.takePressedBit.readMem k = s.readMem k := rfl
@[simp] theorem State.takePressedBit_sp : s.takePressedBit.sp = s.sp := rfl

/-! ### record -/

@[simp] theorem State.record_mem (c : PeripheralCall) : (s.record c).mem = s.mem := rfl
@[simp] theorem State.record_v (c : PeripheralCall) : (s.record c).v = s.v := rfl
@[simp] theorem State.record_i (c : PeripheralCall) : (s.record c).i = s.i := rfl
@[simp] theorem State.record_pc (c : PeripheralCall) : (s.record c).pc = s.pc := rfl
@[simp] theorem State.record_depth (c : PeripheralCall) : (s.record c).depth = s.depth := rfl
@[simp] theorem State.record_stack (c : PeripheralCall) : (s.record c).stack = s.stack := rfl
@[simp] theorem State.record_dt (c : PeripheralCall) : (s.record c).dt = s.dt := rfl
@[simp] theorem State.record_st (c : PeripheralCall) : (s.record c).st = s.st := rfl
@[simp] theorem State.record_halted (c : PeripheralCall) : (s.record c).halted = s.halted := rfl
@[simp] theorem State.record_soundEnabled (c : PeripheralCall) : (s.record c).soundEnabled = s.soundEnabled := rfl
@[simp] theorem State.record_cfg (c : PeripheralCall) : (s.record c).cfg = s.cfg := rfl
@[simp] theorem State.record_display (c : PeripheralCall) : (s.record c).display = s.display := rfl
@[simp] theorem State.record_audible (c : PeripheralCall) : (s.record c).audible = s.audible := rfl
@[simp] theorem State.record_inputs (c : PeripheralCall) : (s.record c).inputs = s.inputs := rfl
@[simp] theorem State.record_calls (c : PeripheralCall) : (s.record c).calls = c :: s.calls := rfl
@[simp] theorem State.record_outcome (c : PeripheralCall) : (s.record c).outcome = s.outcome := rfl
@[simp] theorem State.record_getV (c : PeripheralCall) (r : Reg) : (s.record c).getV r = s.getV r := rfl
@[simp] theorem State.record_readMem (c : PeripheralCall) (k : Nat) : (s.record c).readMem k = s.readMem k := rfl
@[simp] theorem State.record_sp (c : PeripheralCall) : (s.record c).sp = s.sp := rfl

/-! ### clearDisplay -/

@[simp] theorem State.clearDisplay_mem : s.clearDisplay.mem = s.mem := rfl
@[simp] theorem State.clearDisplay_v : s.clearDisplay.v = s.v := rfl
@[simp] theorem State.clearDisplay_i : s.clearDisplay.i = s.i := rfl
@[simp] theorem State.clearDisplay_pc : s.clearDisplay.pc = s.pc := rfl
@[simp] theorem State.clearDisplay_depth : s.clearDisplay.depth = s.depth := rfl
@[simp] theorem State.clearDisplay_stack : s.clearDisplay.stack = s.stack := rfl
@[simp] theorem State.clearDisplay_dt : s.clearDisplay.dt = s.dt := rfl
@[simp] theorem State.clearDisplay_st : s.clearDisplay.st = s.st := rfl
@[simp] theorem State.clearDisplay_halted : s.clearDisplay.halted = s.halted := rfl
@[simp] theorem State.clearDisplay_soundEnabled : s.clearDisplay.soundEnabled = s.soundEnabled := rfl
@[simp] theorem State.clearDisplay_cfg : s.clearDisplay.cfg = s.cfg := rfl
@[simp] theorem State.clearDisplay_display : s.clearDisplay.display = 0 := rfl
@[simp] theorem State.clearDisplay_audible : s.clearDisplay.audible = s.audible := rfl
@[simp] theorem State.clearDisplay_inputs : s.clearDisplay.inputs = s.inputs := rfl
@[simp] theorem State.clearDisplay_calls : s.clearDisplay.calls = .clearDisplay :: s.calls := rfl
@[simp] theorem State.clearDisplay_outcome : s.clearDisplay.outcome = s.outcome := rfl
@[simp] theorem State.clearDisplay_getV (r : Reg) : s.clearDisplay.getV r = s.getV r := rfl
@[simp] theorem State.clearDisplay_readMem (k : Nat) : s.clearDisplay.readMem k = s.readMem k := rfl
@[simp] theorem State.clearDisplay_sp : s.clearDisplay.sp = s.sp := rfl

/-! ### drawPixel -/

@[simp] theorem State.drawPixel_mem (x y : Nat) (b : Bool) : (s.drawPixel x y b).mem = s.mem := rfl
@[simp] theorem State.drawPixel_v (x y : Nat) (b : Bool) : (s.drawPixel x y b).v = s.v := rfl
@[simp] theorem State.drawPixel_i (x y : Nat) (b : Bool) : (s.drawPixel x y b).i = s.i := rfl
@[simp] theorem State.drawPixel_pc (x y : Nat) (b : Bool) : (s.drawPixel x y b).pc = s.pc := rfl
@[simp] theorem State.drawPixel_depth (x y : Nat) (b : Bool) : (s.drawPixel x y b).depth = s.depth := rfl
@[simp] theorem State.drawPixel_stack (x y : Nat) (b : Bool) : (s.drawPixel x y b).stack = s.stack := rfl
@[simp] theorem State.drawPixel_dt (x y : Nat) (b : Bool) : (s.drawPixel x y b).dt = s.dt := rfl
@[simp] theorem State.drawPixel_st (x y : Nat) (b : Bool) : (s.drawPixel x y b).st = s.st := rfl
@[simp] theorem State.drawPixel_halted (x y : Nat) (b : Bool) : (s.drawPixel x y b).halted = s.halted := rfl
@[simp] theorem State.drawPixel_soundEnabled (x y : Nat) (b : Bool) : (s.drawPixel x y b).soundEnabled = s.soundEnabled := rfl
@[simp] theorem State.drawPixel_cfg (x y : Nat) (b : Bool) : (s.drawPixel x y b).cfg = s.cfg := rfl
@[simp] theorem State.drawPixel_display (x y : Nat) (b : Bool) : (s.drawPixel x y b).display = s.display ^^^ (b.toNat <<< s.pixelIndex x y) := rfl
@[simp] theorem State.drawPixel_audible (x y : Nat) (b : Bool) : (s.drawPixel x y b).audible = s.audible := rfl
@[simp] theorem State.drawPixel_inputs (x y : Nat) (b : Bool) : (s.drawPixel x y b).inputs = s.inputs := rfl
@[simp] theorem State.drawPixel_calls (x y : Nat) (b : Bool) : (s.drawPixel x y b).calls = .drawPixel x y b :: s.calls := rfl
@[simp] theorem State.drawPixel_outcome (x y : Nat) (b : Bool) : (s.drawPixel x y b).outcome = s.outcome := rfl
@[simp] theorem State.drawPixel_getV (x y : Nat) (b : Bool) (r : Reg) : (s.drawPixel x y b).getV r = s.getV r := rfl
@[simp] theorem State.drawPixel_readMem (x y : Nat) (b : Bool) (k : Nat) : (s.drawPixel x y b).readMem k = s.readMem k := rfl
@[simp] theorem State.drawPixel_sp (x y : Nat) (b : Bool) : (s.drawPixel x y b).sp = s.sp := rfl

/-! ### getKeys -/

@[simp] theorem State.getKeys_mem : s.getKeys.mem = s.mem := rfl
@[simp] theorem State.getKeys_v : s.getKeys.v = s.v := rfl
@[simp] theorem State.getKeys_i : s.getKeys.i = s.i := rfl
@[simp] theorem State.getKeys_pc : s.getKeys.pc = s.pc := rfl
@[simp] theorem State.getKeys_depth : s.getKeys.depth = s.depth := rfl
@[simp] theorem State.getKeys_stack : s.getKeys.stack = s.stack := rfl
@[simp] theorem State.getKeys_dt : s.getKeys.dt = s.dt := rfl
@[simp] theorem State.getKeys_st : s.getKeys.st = s.st := rfl
@[simp] theorem State.getKeys_halted : s.getKeys.halted = s.halted := rfl
@[simp] theorem State.getKeys_soundEnabled : s.getKeys.soundEnabled = s.soundEnabled := rfl
@[simp] theorem State.getKeys_cfg : s.getKeys.cfg = s.cfg := rfl
@[simp] theorem State.getKeys_display : s.getKeys.display = s.display := rfl
@[simp] theorem State.getKeys_audible : s.getKeys.audible = s.audible := rfl
@[simp] theorem State.getKeys_inputs : s.getKeys.inputs = s.inputs.takeKeyMask := rfl
@[simp] theorem State.getKeys_calls : s.getKeys.calls = .getKeys :: s.calls := rfl
@[simp] theorem State.getKeys_outcome : s.getKeys.outcome = s.outcome := rfl
@[simp] theorem State.getKeys_getV (r : Reg) : s.getKeys.getV r = s.getV r := rfl
@[simp] theorem State.getKeys_readMem (k : Nat) : s.getKeys.readMem k = s.readMem k := rfl
@[simp] theorem State.getKeys_sp : s.getKeys.sp = s.sp := rfl

/-! ### waitKey -/

@[simp] theorem State.waitKey_mem : s.waitKey.mem = s.mem := rfl
@[simp] theorem State.waitKey_v : s.waitKey.v = s.v := rfl
@[simp] theorem State.waitKey_i : s.waitKey.i = s.i := rfl
@[simp] theorem State.waitKey_pc : s.waitKey.pc = s.pc := rfl
@[simp] theorem State.waitKey_depth : s.waitKey.depth = s.depth := rfl
@[simp] theorem State.waitKey_stack : s.waitKey.stack = s.stack := rfl
@[simp] theorem State.waitKey_dt : s.waitKey.dt = s.dt := rfl
@[simp] theorem State.waitKey_st : s.waitKey.st = s.st := rfl
@[simp] theorem State.waitKey_halted : s.waitKey.halted = s.halted := rfl
@[simp] theorem State.waitKey_soundEnabled : s.waitKey.soundEnabled = s.soundEnabled := rfl
@[simp] theorem State.waitKey_cfg : s.waitKey.cfg = s.cfg := rfl
@[simp] theorem State.waitKey_display : s.waitKey.display = s.display := rfl
@[simp] theorem State.waitKey_audible : s.waitKey.audible = s.audible := rfl
@[simp] theorem State.waitKey_inputs : s.waitKey.inputs = s.inputs.takeKeyPress := rfl
@[simp] theorem State.waitKey_calls : s.waitKey.calls = .waitKey :: s.calls := rfl
@[simp] theorem State.waitKey_outcome : s.waitKey.outcome = s.outcome := rfl
@[simp] theorem State.waitKey_getV (r : Reg) : s.waitKey.getV r = s.getV r := rfl
@[simp] theorem State.waitKey_readMem (k : Nat) : s.waitKey.readMem k = s.readMem k := rfl
@[simp] theorem State.waitKey_sp : s.waitKey.sp = s.sp := rfl

/-! ### enableSound -/

@[simp] theorem State.enableSound_mem : s.enableSound.mem = s.mem := rfl
@[simp] theorem State.enableSound_v : s.enableSound.v = s.v := rfl
@[simp] theorem State.enableSound_i : s.enableSound.i = s.i := rfl
@[simp] theorem State.enableSound_pc : s.enableSound.pc = s.pc := rfl
@[simp] theorem State.enableSound_depth : s.enableSound.depth = s.depth := rfl
@[simp] theorem State.enableSound_stack : s.enableSound.stack = s.stack := rfl
@[simp] theorem State.enableSound_dt : s.enableSound.dt = s.dt := rfl
@[simp] theorem State.enableSound_st : s.enableSound.st = s.st := rfl
@[simp] theorem State.enableSound_halted : s.enableSound.halted = s.halted := rfl
@[simp] theorem State.enableSound_soundEnabled : s.enableSound.soundEnabled = s.soundEnabled := rfl
@[simp] theorem State.enableSound_cfg : s.enableSound.cfg = s.cfg := rfl
@[simp] theorem State.enableSound_display : s.enableSound.display = s.display := rfl
@[simp] theorem State.enableSound_audible : s.enableSound.audible = true := rfl
@[simp] theorem State.enableSound_inputs : s.enableSound.inputs = s.inputs := rfl
@[simp] theorem State.enableSound_calls : s.enableSound.calls = .enableSound :: s.calls := rfl
@[simp] theorem State.enableSound_outcome : s.enableSound.outcome = s.outcome := rfl
@[simp] theorem State.enableSound_getV (r : Reg) : s.enableSound.getV r = s.getV r := rfl
@[simp] theorem State.enableSound_readMem (k : Nat) : s.enableSound.readMem k = s.readMem k := rfl
@[simp] theorem State.enableSound_sp : s.enableSound.sp = s.sp := rfl

/-! ### disableSound -/

@[simp] theorem State.disableSound_mem : s.disableSound.mem = s.mem := rfl
@[simp] theorem State.disableSound_v : s.disableSound.v = s.v := rfl
@[simp] theorem State.disableSound_i : s.disableSound.i = s.i := rfl
@[simp] theorem State.disableSound_pc : s.disableSound.pc = s.pc := rfl
@[simp] theorem State.disableSound_depth : s.disableSound.depth = s.depth := rfl
@[simp] theorem State.disableSound_stack : s.disableSound.stack = s.stack := rfl
@[simp] theorem State.disableSound_dt : s.disableSound.dt = s.dt := rfl
@[simp] theorem State.disableSound_st : s.disableSound.st = s.st := rfl
@[simp] theorem State.disableSound_halted : s.disableSound.halted = s.halted := rfl
@[simp] theorem State.disableSound_soundEnabled : s.disableSound.soundEnabled = s.soundEnabled := rfl
@[simp] theorem State.disableSound_cfg : s.disableSound.cfg = s.cfg := rfl
@[simp] theorem State.disableSound_display : s.disableSound.display = s.display := rfl
@[simp] theorem State.disableSound_audible : s.disableSound.audible = false := rfl
@[simp] theorem State.disableSound_inputs : s.disableSound.inputs = s.inputs := rfl
@[simp] theorem State.disableSound_calls : s.disableSound.calls = .disableSound :: s.calls := rfl
@[simp] theorem State.disableSound_outcome : s.disableSound.outcome = s.outcome := rfl
@[simp] theorem State.disableSound_getV (r : Reg) : s.disableSound.getV r = s.getV r := rfl
@[simp] theorem State.disableSound_readMem (k : Nat) : s.disableSound.readMem k = s.readMem k := rfl
@[simp] theorem State.disableSound_sp : s.disableSound.sp = s.sp := rfl

/-! ### setSoundEnabled -/

@[simp] theorem State.setSoundEnabled_mem (b : Bool) : (s.setSoundEnabled b).mem = s.mem := rfl
@[simp] theorem State.setSoundEnabled_v (b : Bool) : (s.setSoundEnabled b).v = s.v := rfl
@[simp] theorem State.setSoundEnabled_i (b : Bool) : (s.setSoundEnabled b).i = s.i := rfl
@[simp] theorem State.setSoundEnabled_pc (b : Bool) : (s.setSoundEnabled b).pc = s.pc := rfl
@[simp] theorem State.setSoundEnabled_depth (b : Bool) : (s.setSoundEnabled b).depth = s.depth := rfl
@[simp] theorem State.setSoundEnabled_stack (b : Bool) : (s.setSoundEnabled b).stack = s.stack := rfl
@[simp] theorem State.setSoundEnabled_dt (b : Bool) : (s.setSoundEnabled b).dt = s.dt := rfl
@[simp] theorem State.setSoundEnabled_st (b : Bool) : (s.setSoundEnabled b).st = s.st := rfl
@[simp] theorem State.setSoundEnabled_halted (b : Bool) : (s.setSoundEnabled b).halted = s.halted := rfl
@[simp] theorem State.setSoundEnabled_soundEnabled (b : Bool) : (s.setSoundEnabled b).soundEnabled = b := rfl
@[simp] theorem State.setSoundEnabled_cfg (b : Bool) : (s.setSoundEnabled b).cfg = s.cfg := rfl
@[simp] theorem State.setSoundEnabled_display (b : Bool) : (s.setSoundEnabled b).display = s.display := rfl
@[simp] theorem State.setSoundEnabled_audible (b : Bool) : (s.setSoundEnabled b).audible = s.audible := rfl
@[simp] theorem State.setSoundEnabled_inputs (b : Bool) : (s.setSoundEnabled b).inputs = s.inputs := rfl
@[simp] theorem State.setSoundEnabled_calls (b : Bool) : (s.setSoundEnabled b).calls = s.calls := rfl
@[simp] theorem State.setSoundEnabled_outcome (b : Bool) : (s.setSoundEnabled b).outcome = s.outcome := rfl
@[simp] theorem State.setSoundEnabled_getV (b : Bool) (r : Reg) : (s.setSoundEnabled b).getV r = s.getV r := rfl
@[simp] theorem State.setSoundEnabled_readMem (b : Bool) (k : Nat) : (s.setSoundEnabled b).readMem k = s.readMem k := rfl
@[simp] theorem State.setSoundEnabled_sp (b : Bool) : (s.setSoundEnabled b).sp = s.sp := rfl

/-! ### A register write, read back -/

@[simp] theorem State.getV_setV_same (x : Reg) (b : Byte) : (s.setV x b).getV x = b := by
  simp [State.getV, State.setV]

theorem State.getV_setV_other {x r : Reg} (h : r ≠ x) (b : Byte) : (s.setV x b).getV r = s.getV r := by
  have h' : x.val ≠ r.val := fun e => h (Fin.ext e.symm)
  simp [State.getV, State.setV, h']

theorem State.getV_setV (x r : Reg) (b : Byte) : (s.setV x b).getV r = if r = x then b else s.getV r := by
  by_cases h : r = x
  · subst h; simp
  · simp [State.getV_setV_other s h, h]

/-! ### withKeypad -/

@[simp] theorem State.withKeypad_mem (pad : Keypad) : (s.withKeypad pad).mem = s.mem := rfl
@[simp] theorem State.withKeypad_v (pad : Keypad) : (s.withKeypad pad).v = s.v := rfl
@[simp] theorem State.withKeypad_i (pad : Keypad) : (s.withKeypad pad).i = s.i := rfl
@[simp] theorem State.withKeypad_pc (pad : Keypad) : (s.withKeypad pad).pc = s.pc := rfl
@[simp] theorem State.withKeypad_depth (pad : Keypad) : (s.withKeypad pad).depth = s.depth := rfl
@[simp] theorem State.withKeypad_stack (pad : Keypad) : (s.withKeypad pad).stack = s.stack := rfl
@[simp] theorem State.withKeypad_dt (pad : Keypad) : (s.withKeypad pad).dt = s.dt := rfl
@[simp] theorem State.withKeypad_st (pad : Keypad) : (s.withKeypad pad).st = s.st := rfl
@[simp] theorem State.withKeypad_halted (pad : Keypad) : (s.withKeypad pad).halted = s.halted := rfl
@[simp] theorem State.withKeypad_soundEnabled (pad : Keypad) : (s.withKeypad pad).soundEnabled = s.soundEnabled := rfl
@[simp] theorem State.withKeypad_cfg (pad : Keypad) : (s.withKeypad pad).cfg = s.cfg := rfl
@[simp] theorem State.withKeypad_display (pad : Keypad) : (s.withKeypad pad).display = s.display := rfl
@[simp] theorem State.withKeypad_audible (pad : Keypad) : (s.withKeypad pad).audible = s.audible := rfl
@[simp] theorem State.withKeypad_inputs (pad : Keypad) : (s.withKeypad pad).inputs = { s.inputs with keypad := some pad } := rfl
@[simp] theorem State.withKeypad_calls (pad : Keypad) : (s.withKeypad pad).calls = s.calls := rfl
@[simp] theorem State.withKeypad_outcome (pad : Keypad) : (s.withKeypad pad).outcome = s.outcome := rfl
@[simp] theorem State.withKeypad_getV (pad : Keypad) (r : Reg) : (s.withKeypad pad).getV r = s.getV r := rfl
@[simp] theorem State.withKeypad_readMem (pad : Keypad) (k : Nat) : (s.withKeypad pad).readMem k = s.readMem k := rfl
@[simp] theorem State.withKeypad_sp (pad : Keypad) : (s.withKeypad pad).sp = s.sp := rfl

end Sys2Proof.Machine
end

