-- ==== Sys2Proof/Laws/Memory.lean ====
section
/-! SUPPORT. The laws of memory: a read after a write, and the canonical form. -/

namespace Sys2Proof.Machine

variable (font : List Byte)

theorem Memory.read_insert_same (m : Memory) (a : Nat) (b : Byte) (lo : Nat) (h : Memory.wfFrom font lo m = true) :
    Memory.read font (Memory.insert font m a b) a = b := by
  induction m generalizing lo with
  | nil =>
    unfold Memory.insert
    split <;> simp_all [Memory.read]
  | cons e rest ih =>
    obtain ⟨k, c⟩ := e
    simp only [Memory.wfFrom, Bool.and_eq_true, decide_eq_true_eq] at h
    obtain ⟨⟨⟨_, _⟩, _⟩, hrest⟩ := h
    have hlow : ∀ (m : Memory) (lo : Nat), Memory.wfFrom font lo m = true → a < lo →
        Memory.read font m a = unlisted font a := by
      intro m
      induction m with
      | nil => intros; rfl
      | cons e r ihr =>
        obtain ⟨k', c'⟩ := e
        intro lo hw ha
        simp only [Memory.wfFrom, Bool.and_eq_true, decide_eq_true_eq] at hw
        have : k' ≠ a := by omega
        simp only [Memory.read, this, if_false]
        exact ihr (k' + 1) hw.2 (by omega)
    unfold Memory.insert
    by_cases h1 : a < k
    · by_cases h2 : b = unlisted font a
      · have : k ≠ a := by omega
        simp only [h1, h2, if_true, Memory.read, this, if_false]
        exact hlow rest (k + 1) hrest (by omega)
      · simp [h1, h2, Memory.read]
    · by_cases h2 : a = k
      · subst h2
        by_cases h3 : b = unlisted font a
        · simp only [h1, h3, if_true, if_false]
          exact hlow rest (a + 1) hrest (by omega)
        · simp [h3, Memory.read]
      · have h4 : k ≠ a := fun e => h2 e.symm
        simp only [h1, h2, if_false, Memory.read, h4]
        exact ih (k + 1) hrest

theorem Memory.read_insert_other (m : Memory) {a k : Nat} (b : Byte) (h : k ≠ a) :
    Memory.read font (Memory.insert font m a b) k = Memory.read font m k := by
  induction m with
  | nil =>
    unfold Memory.insert
    have : a ≠ k := fun e => h e.symm
    split <;> simp [Memory.read, this]
  | cons e rest ih =>
    obtain ⟨j, c⟩ := e
    have h' : a ≠ k := fun e => h e.symm
    unfold Memory.insert
    by_cases h1 : a < j
    · by_cases h2 : b = unlisted font a <;> simp [h1, h2, Memory.read, h']
    · by_cases h2 : a = j
      · subst h2
        by_cases h3 : b = unlisted font a <;> simp [h3, Memory.read, h']
      · simp [h1, h2, Memory.read, ih]

theorem Memory.insert_wfFrom (m : Memory) {lo a : Nat} (b : Byte) (h : Memory.wfFrom font lo m = true) (hlo : lo ≤ a)
    (ha : a < Config.memSize) : Memory.wfFrom font lo (Memory.insert font m a b) = true := by
  induction m generalizing lo with
  | nil =>
    unfold Memory.insert
    split <;> simp_all [Memory.wfFrom]
  | cons e rest ih =>
    obtain ⟨k, c⟩ := e
    have h0 := h
    simp only [Memory.wfFrom, Bool.and_eq_true, decide_eq_true_eq] at h
    obtain ⟨⟨⟨hk, hk'⟩, hc⟩, hrest⟩ := h
    unfold Memory.insert
    by_cases h1 : a < k
    · by_cases h2 : b = unlisted font a
      · simpa [h1, h2] using h0
      · simp only [h1, h2, if_true, if_false, Memory.wfFrom, Bool.and_eq_true, decide_eq_true_eq]
        exact ⟨⟨⟨hlo, ha⟩, h2⟩, ⟨⟨⟨by omega, hk'⟩, hc⟩, hrest⟩⟩
    · by_cases h2 : a = k
      · subst h2
        by_cases h3 : b = unlisted font a
        · simp only [h1, h3, if_true, if_false]
          have mono : ∀ (m : Memory) (l l' : Nat), l ≤ l' → Memory.wfFrom font l' m = true →
              Memory.wfFrom font l m = true := by
            intro m l l' hl hw
            cases m with
            | nil => rfl
            | cons e r =>
              obtain ⟨k', c'⟩ := e
              simp only [Memory.wfFrom, Bool.and_eq_true, decide_eq_true_eq] at hw ⊢
              exact ⟨⟨⟨by omega, hw.1.1.2⟩, hw.1.2⟩, hw.2⟩
          exact mono rest lo (a + 1) (by omega) hrest
        · simp only [h1, h3, if_true, if_false, Memory.wfFrom, Bool.and_eq_true, decide_eq_true_eq]
          exact ⟨⟨⟨hlo, ha⟩, h3⟩, hrest⟩
      · simp only [h1, h2, if_false, Memory.wfFrom, Bool.and_eq_true, decide_eq_true_eq]
        exact ⟨⟨⟨hk, hk'⟩, hc⟩, ih hrest (by omega)⟩

/-- A write keeps the canonical form. -/
theorem Memory.write_wf (m : Memory) (a : Nat) (b : Byte) (h : Memory.wf font m = true) :
    Memory.wf font (Memory.write font m a b) = true := by
  unfold Memory.write
  split
  · exact Memory.insert_wfFrom font m b h (Nat.zero_le a) ‹_›
  · exact h

/-- A read after a write to the same address of memory. -/
theorem Memory.read_write_same (m : Memory) {a : Nat} (b : Byte) (h : Memory.wf font m = true)
    (ha : a < Config.memSize) : Memory.read font (Memory.write font m a b) a = b := by
  simp only [Memory.write, ha, if_true]
  exact Memory.read_insert_same font m a b 0 h

/-- A write leaves every other address alone. -/
theorem Memory.read_write_other (m : Memory) {a k : Nat} (b : Byte) (h : k ≠ a) :
    Memory.read font (Memory.write font m a b) k = Memory.read font m k := by
  unfold Memory.write
  split
  · exact Memory.read_insert_other font m b h
  · rfl

theorem Memory.read_below (m : Memory) {lo a : Nat} (h : Memory.wfFrom font lo m = true) (ha : a < lo) :
    Memory.read font m a = unlisted font a := by
  induction m generalizing lo with
  | nil => rfl
  | cons e rest ih =>
    obtain ⟨k, c⟩ := e
    simp only [Memory.wfFrom, Bool.and_eq_true, decide_eq_true_eq] at h
    have : k ≠ a := by omega
    simp only [Memory.read, this, if_false]
    exact ih h.2 (by omega)

/-- The form is canonical: two memories in it that read alike everywhere are the same list. -/
theorem Memory.eq_of_read_eq (m n : Memory) {lo : Nat} (hm : Memory.wfFrom font lo m = true)
    (hn : Memory.wfFrom font lo n = true) (h : ∀ a, Memory.read font m a = Memory.read font n a) : m = n := by
  induction m generalizing lo n with
  | nil =>
    cases n with
    | nil => rfl
    | cons e r =>
      obtain ⟨k, c⟩ := e
      simp only [Memory.wfFrom, Bool.and_eq_true, decide_eq_true_eq] at hn
      exact absurd (by simpa [Memory.read] using (h k).symm) hn.1.2
  | cons e r ih =>
    obtain ⟨k, c⟩ := e
    simp only [Memory.wfFrom, Bool.and_eq_true, decide_eq_true_eq] at hm
    cases n with
    | nil => exact absurd (by simpa [Memory.read] using h k) hm.1.2
    | cons e' r' =>
      obtain ⟨k', c'⟩ := e'
      simp only [Memory.wfFrom, Bool.and_eq_true, decide_eq_true_eq] at hn
      have hk : k = k' := by
        rcases Nat.lt_trichotomy k k' with hlt | heq | hgt
        · have h1 : Memory.read font r' k = unlisted font k := Memory.read_below font r' hn.2 (by omega)
          have h2 := h k
          have h3 : k' ≠ k := by omega
          simp only [Memory.read, if_true, h3, if_false, h1] at h2
          exact absurd h2 hm.1.2
        · exact heq
        · have h1 : Memory.read font r k' = unlisted font k' := Memory.read_below font r hm.2 (by omega)
          have h2 := h k'
          have h3 : k ≠ k' := by omega
          simp only [Memory.read, if_true, h3, if_false, h1] at h2
          exact absurd h2.symm hn.1.2
      subst hk
      have hc : c = c' := by simpa [Memory.read] using h k
      subst hc
      congr 1
      refine ih r' hm.2 hn.2 fun a => ?_
      by_cases ha : k = a
      · subst ha
        rw [Memory.read_below font r hm.2 (by omega), Memory.read_below font r' hn.2 (by omega)]
      · simpa [Memory.read, ha] using h a

end Sys2Proof.Machine
end

