-- ==== Sys2Proof/Laws/Ops.lean ====
section
/-! SUPPORT. What each shared operation can do, said once: byte writes, the stack, the register block, the flag writes,
the pixel calls, the inputs, the timers. -/

namespace Sys2Proof.Machine

variable (s : State)

/-! ### Memory through the state -/

@[simp] theorem State.readMem_writeMem_same {a : Nat} (b : Byte) (h : MemCanonical s) (ha : a < 4096) :
    (s.writeMem a b).readMem a = b := Memory.read_write_same s.cfg.font s.mem b h ha

theorem State.readMem_writeMem_other {a k : Nat} (b : Byte) (h : k ≠ a) :
    (s.writeMem a b).readMem k = s.readMem k := Memory.read_write_other s.cfg.font s.mem b h

theorem State.writeMem_canonical (a : Nat) (b : Byte) (h : MemCanonical s) : MemCanonical (s.writeMem a b) :=
  Memory.write_wf s.cfg.font s.mem a b h

/-- Byte writes change memory only. -/
theorem State.writeBytes_eq (a : Nat) (bs : List Byte) :
    s.writeBytes a bs = { s with mem := (s.writeBytes a bs).mem } := by
  induction bs generalizing s a with
  | nil => rfl
  | cons b rest ih =>
    simp only [State.writeBytes]
    rw [ih]
    rfl

theorem State.writeBytes_canonical (a : Nat) (bs : List Byte) (h : MemCanonical s) :
    MemCanonical (s.writeBytes a bs) := by
  induction bs generalizing s a with
  | nil => exact h
  | cons b rest ih => exact ih _ _ (s.writeMem_canonical a b h)

/-- An address outside the written bytes reads as before. -/
theorem State.readMem_writeBytes_other (a k : Nat) (bs : List Byte) (h : k < a ∨ a + bs.length ≤ k) :
    (s.writeBytes a bs).readMem k = s.readMem k := by
  induction bs generalizing s a with
  | nil => rfl
  | cons b rest ih =>
    simp only [List.length_cons] at h
    simp only [State.writeBytes]
    rw [ih _ _ (by omega), State.readMem_writeMem_other s b (by omega)]

/-- A written byte reads back. -/
theorem State.readMem_writeBytes_same (a j : Nat) (bs : List Byte) (hm : MemCanonical s) (hj : j < bs.length)
    (ha : a + bs.length ≤ 4096) : (s.writeBytes a bs).readMem (a + j) = bs[j] := by
  induction bs generalizing s a j with
  | nil => simp at hj
  | cons b rest ih =>
    simp only [List.length_cons] at hj ha
    simp only [State.writeBytes]
    cases j with
    | zero =>
      rw [State.readMem_writeBytes_other _ _ _ _ (by omega)]
      exact s.readMem_writeMem_same b hm (by omega)
    | succ j =>
      have := ih (s.writeMem a b) (a + 1) j (s.writeMem_canonical a b hm) (by omega) (by omega)
      simpa [Nat.add_assoc, Nat.add_comm 1 j] using this

@[simp] theorem State.writeBytes_v (a : Nat) (bs : List Byte) : (s.writeBytes a bs).v = s.v := by
  rw [s.writeBytes_eq]
@[simp] theorem State.writeBytes_i (a : Nat) (bs : List Byte) : (s.writeBytes a bs).i = s.i := by
  rw [s.writeBytes_eq]
@[simp] theorem State.writeBytes_pc (a : Nat) (bs : List Byte) : (s.writeBytes a bs).pc = s.pc := by
  rw [s.writeBytes_eq]
@[simp] theorem State.writeBytes_depth (a : Nat) (bs : List Byte) : (s.writeBytes a bs).depth = s.depth := by
  rw [s.writeBytes_eq]
@[simp] theorem State.writeBytes_stack (a : Nat) (bs : List Byte) : (s.writeBytes a bs).stack = s.stack := by
  rw [s.writeBytes_eq]
@[simp] theorem State.writeBytes_dt (a : Nat) (bs : List Byte) : (s.writeBytes a bs).dt = s.dt := by
  rw [s.writeBytes_eq]
@[simp] theorem State.writeBytes_st (a : Nat) (bs : List Byte) : (s.writeBytes a bs).st = s.st := by
  rw [s.writeBytes_eq]
@[simp] theorem State.writeBytes_halted (a : Nat) (bs : List Byte) : (s.writeBytes a bs).halted = s.halted := by
  rw [s.writeBytes_eq]
@[simp] theorem State.writeBytes_soundEnabled (a : Nat) (bs : List Byte) : (s.writeBytes a bs).soundEnabled = s.soundEnabled := by
  rw [s.writeBytes_eq]
@[simp] theorem State.writeBytes_cfg (a : Nat) (bs : List Byte) : (s.writeBytes a bs).cfg = s.cfg := by
  rw [s.writeBytes_eq]
@[simp] theorem State.writeBytes_display (a : Nat) (bs : List Byte) : (s.writeBytes a bs).display = s.display := by
  rw [s.writeBytes_eq]
@[simp] theorem State.writeBytes_audible (a : Nat) (bs : List Byte) : (s.writeBytes a bs).audible = s.audible := by
  rw [s.writeBytes_eq]
@[simp] theorem State.writeBytes_inputs (a : Nat) (bs : List Byte) : (s.writeBytes a bs).inputs = s.inputs := by
  rw [s.writeBytes_eq]
@[simp] theorem State.writeBytes_calls (a : Nat) (bs : List Byte) : (s.writeBytes a bs).calls = s.calls := by
  rw [s.writeBytes_eq]
@[simp] theorem State.writeBytes_outcome (a : Nat) (bs : List Byte) : (s.writeBytes a bs).outcome = s.outcome := by
  rw [s.writeBytes_eq]

@[simp] theorem State.writeBytes_getV (a : Nat) (bs : List Byte) (r : Reg) : (s.writeBytes a bs).getV r = s.getV r := by
  simp [State.getV]

@[simp] theorem State.writeBytes_sp (a : Nat) (bs : List Byte) : (s.writeBytes a bs).sp = s.sp := by
  simp [State.sp]

/-! ### The stack -/

/-- A push on a stack that is not full. -/
theorem State.push_eq (w : Word) (h : s.depth.val < 16) :
    s.push w = { s with depth := ⟨s.depth.val + 1, by omega⟩, stack := s.stack.set s.depth.val w } := by
  simp [State.push, h]

/-- A pushed word is the top. -/
theorem State.top_push (w : Word) (h : s.depth.val < 16) : (s.push w).top = w := by
  have h2 : (s.depth.val + 1 - 1) % 16 = s.depth.val := by omega
  rw [s.push_eq w h]
  simp only [State.top, h2]
  exact Vector.getElem_set_self h

/-- A push raises SP by one. -/
theorem State.sp_push (w : Word) (h : s.depth.val < 16) : (s.push w).sp = s.sp + 1 := by
  rw [s.push_eq w h]
  simp only [State.sp]
  push_cast
  ring

/-- A pop of a stack that is not empty lowers SP by one. -/
theorem State.sp_dropTop (h : 0 < s.depth.val) : s.dropTop.sp = s.sp - 1 := by
  simp only [State.sp, State.dropTop]
  omega

/-! ### Inputs -/

@[simp] theorem Channel.head_supplied {α : Type} (free : Nat → α) (a : α) (rest : List α) (n : Nat) :
    Channel.head free ⟨a :: rest, n⟩ = a := rfl

@[simp] theorem Channel.head_free {α : Type} (free : Nat → α) (n : Nat) : Channel.head free ⟨[], n⟩ = free n := rfl

@[simp] theorem Channel.tail_taken {α : Type} (c : Channel α) : c.tail.taken = c.taken + 1 := rfl

@[simp] theorem Channel.tail_supplied {α : Type} (c : Channel α) : c.tail.supplied = c.supplied.tail := rfl

/-- With the reference peripheral attached `getKeys()` answers the key-held mask, as often as it is called. -/
theorem State.getKeys_attached {pad : Keypad} (h : s.inputs.keypad = some pad) :
    s.keyMask = pad.held ∧ s.getKeys = s.record .getKeys := by
  simp [State.keyMask, State.getKeys, HostInputs.takeKeyMask, State.record, h]

/-- Without it `getKeys()` uses up one answer of the host. -/
theorem State.getKeys_host (h : s.inputs.keypad = none) :
    s.keyMask = s.inputs.keyMasks.head Config.freeKeyMask ∧
      s.getKeys.inputs = { s.inputs with keyMasks := s.inputs.keyMasks.tail } := by
  simp [State.keyMask, State.getKeys, HostInputs.takeKeyMask, h]

/-- With the reference peripheral attached `waitKey()` pops the most recent press. -/
theorem State.waitKey_attached {pad : Keypad} (h : s.inputs.keypad = some pad) :
    s.keyPress = pad.presses.head? ∧
      s.waitKey = (s.record .waitKey).withKeypad { pad with presses := pad.presses.tail } := by
  simp [State.keyPress, State.waitKey, HostInputs.takeKeyPress, State.record, State.withKeypad, h]

/-- Without it `waitKey()` uses up one answer of the host. -/
theorem State.waitKey_host (h : s.inputs.keypad = none) :
    s.keyPress = s.inputs.keyPresses.head Config.freeKeyPress ∧
      s.waitKey.inputs = { s.inputs with keyPresses := s.inputs.keyPresses.tail } := by
  simp [State.keyPress, State.waitKey, HostInputs.takeKeyPress, h]

/-- What one `getKeys()` leaves of the inputs, in both cases. -/
theorem HostInputs.takeKeyMask_eq (inputs : HostInputs) : inputs.takeKeyMask =
    { inputs with keyMasks := if inputs.keypad = none then inputs.keyMasks.tail else inputs.keyMasks } := by
  cases h : inputs.keypad <;> simp [HostInputs.takeKeyMask, h]
  rw [← h]

/-- What one `waitKey()` leaves of the inputs, in both cases. -/
theorem State.takeKeyPress_eq : s.inputs.takeKeyPress = inputsAfterKeyWait s := by
  cases h : s.inputs.keypad <;> simp [HostInputs.takeKeyPress, inputsAfterKeyWait, h]

/-! ### The register block -/

/-- The block load changes registers only. -/
theorem loadBlock_eq (n : Nat) : loadBlock s n = { s with v := (loadBlock s n).v } := by
  induction n with
  | zero => rfl
  | succ n ih =>
    simp only [loadBlock]
    rw [ih]
    rfl

/-- Register r below the count is loaded from I + r, and every other register is kept. -/
theorem getV_loadBlock (n : Nat) (hn : n ≤ 16) (r : Reg) :
    (loadBlock s n).getV r = if r.val < n then s.readMem (s.i.toNat + r.val) else s.getV r := by
  induction n with
  | zero => simp [loadBlock]
  | succ n ih =>
    have hv : (Fin.ofNat 16 n).val = n := Nat.mod_eq_of_lt (by omega)
    simp only [loadBlock, State.getV_setV]
    rw [ih (by omega)]
    by_cases h : r = Fin.ofNat 16 n
    · have hr : r.val = n := by rw [h, hv]
      rw [if_pos h, if_pos (by omega), hr]
    · have hr : r.val ≠ n := fun e => h (Fin.ext (by rw [hv]; exact e))
      rw [if_neg h]
      by_cases h1 : r.val < n
      · rw [if_pos h1, if_pos (by omega)]
      · rw [if_neg h1, if_neg (by omega)]

/-- The k-th byte of the stored block is V[k]. -/
theorem registerBlock_length (x : Reg) : (registerBlock s x).length = x.val + 1 := by
  simp [registerBlock]

theorem getElem_registerBlock (x : Reg) (k : Nat) (hk : k < (registerBlock s x).length) :
    (registerBlock s x)[k] = s.getV ⟨k, by have := registerBlock_length s x; omega⟩ := by
  simp [registerBlock, State.getV]

/-! ### Result and flag -/

/-- Result then flag: VF holds the flag, the destination holds the result unless it is VF, the others are kept. -/
theorem getV_writeResultThenFlag (x r : Reg) (result flag : Byte) :
    (writeResultThenFlag s x result flag).getV r =
      if r = Reg.vf then flag else if r = x then result else s.getV r := by
  simp only [writeResultThenFlag, State.getV_setV]

/-- Flag then shift: the destination holds the shift of what it held after the flag was written. -/
theorem getV_writeFlagThenShift (x r : Reg) (flag : Byte) (f : Byte → Byte) :
    (writeFlagThenShift s x flag f).getV r =
      if r = x then f (if x = Reg.vf then flag else s.getV x) else if r = Reg.vf then flag else s.getV r := by
  simp only [writeFlagThenShift, State.getV_setV]

/-- The end of a flag-writing instruction: refused or completed. -/
theorem endFlagWrite_next {s : State} {x : Reg} {w t : State} (h : endFlagWrite s x w = .next t) : t = w.next := by
  unfold endFlagWrite at h
  split at h
  · cases h
  · cases h; rfl

/-! ### Pixels -/

/-- The pixel calls change the display and the record of calls only. -/
theorem State.drawPixels_eq (ps : List SpritePixel) :
    s.drawPixels ps = { s with
      display := (s.drawPixels ps).display
      calls := (ps.map fun p => PeripheralCall.drawPixel p.x p.y p.value).reverse ++ s.calls } := by
  induction ps generalizing s with
  | nil => rfl
  | cons p rest ih =>
    simp only [State.drawPixels]
    rw [ih]
    simp [State.drawPixel, State.record]

/-- One pixel is XORed, and the pixels at other indexes are kept. -/
theorem State.pixel_drawPixel (x y x' y' : Nat) (b : Bool) :
    (s.drawPixel x y b).pixel x' y' =
      (s.pixel x' y' ^^ (b && decide (s.pixelIndex x y = s.pixelIndex x' y'))) := by
  simp only [State.pixel, State.pixelIndex, State.drawPixel_cfg, State.drawPixel_display, Nat.testBit_xor]
  cases b
  · simp
  · simp only [Bool.toNat_true, Nat.one_shiftLeft, Nat.testBit_two_pow, Bool.true_and]
    congr

/-! ### The ends of an instruction -/

theorem State.skipIf_eq (c : Bool) : s.skipIf c = s.jump (if c then s.pc + 4 else s.pc + 2) := by
  cases c <;> rfl

/-! ### Host operations -/

@[simp] theorem countDown_toNat (b : Byte) : (countDown b).toNat = b.toNat - 1 := by
  unfold countDown
  split
  · simp [*]
  · rename_i h
    have : b.toNat ≠ 0 := fun e => h (BitVec.eq_of_toNat_eq (by simpa using e))
    rw [BitVec.toNat_sub]
    have := b.isLt
    simp
    omega

/-- A tick changes DT, ST, and at the end of sound the latch, the peripheral's sound and the record of calls. -/
theorem tick_cases :
    (countDown s.st = 0 ∧ s.soundEnabled = true ∧ tick s = { s with
      dt := countDown s.dt, st := countDown s.st, soundEnabled := false, audible := false
      calls := .disableSound :: s.calls }) ∨
    (¬ (countDown s.st = 0 ∧ s.soundEnabled = true) ∧
      tick s = { s with dt := countDown s.dt, st := countDown s.st }) := by
  by_cases h : countDown s.st = 0 ∧ s.soundEnabled = true
  · exact .inl ⟨h.1, h.2, by unfold tick silenceIfDone; exact if_pos h⟩
  · exact .inr ⟨h, by unfold tick silenceIfDone; exact if_neg h⟩

/-- A step is one of: already halted, a fetch fault, an illegal opcode, or the decoded instruction's meaning. -/
theorem step_cases :
    (s.halted = true ∧ step s = .fault .alreadyHalted) ∨
    (s.halted = false ∧ s.canFetch = false ∧ step s = .next (s.raise (.memoryOutOfBounds s.pc s.pc))) ∨
    (s.halted = false ∧ s.canFetch = true ∧ (∃ e, disassemble s.fetchWord = .error e) ∧
      step s = .next (s.raise (.illegalInstruction s.fetchWord s.pc))) ∨
    (s.halted = false ∧ s.canFetch = true ∧ ∃ i, disassemble s.fetchWord = .ok i ∧ step s = exec i s) := by
  unfold step cycle decodeAndExecute
  cases s.halted <;> cases s.canFetch <;> cases h : disassemble s.fetchWord <;> simp

end Sys2Proof.Machine
end

