-- ==== Sys2Proof/Laws/PerInstr.lean ====
section
/-! SUPPORT. Statements made for each constructor of Instr. EncodedRow: the opcode of an instruction has its row's fixed
bits (30_encoding.md R102). -/

namespace Sys2Proof.Laws.EncodedRow

/-- The encoded instruction matches its own row of the opcode table. -/
def Statement (i : Instr) : Prop := encode i &&& i.mask = i.pattern

/-- Fields outside the mask leave the pattern's bits as they are. -/
theorem fits {p m f : Word} (h : p &&& m = p) (hf : f &&& m = 0) : (p ||| f) &&& m = p := by
  rw [BitVec.and_comm, BitVec.and_or_distrib_left, BitVec.and_comm, h, BitVec.and_comm m, hf]
  exact BitVec.or_zero

/-- Two fields outside the mask. -/
theorem both {m a b : Word} (ha : a &&& m = 0) (hb : b &&& m = 0) : (a ||| b) &&& m = 0 := by
  rw [BitVec.and_comm, BitVec.and_or_distrib_left, BitVec.and_comm, ha, BitVec.and_comm m, hb]
  exact BitVec.or_zero


theorem putX_mask (x : Reg) : putX x &&& 0xF000 = 0 ∧ putX x &&& 0xF00F = 0 ∧ putX x &&& 0xF0FF = 0 := by
  revert x; decide

theorem putY_mask (y : Reg) : putY y &&& 0xF000 = 0 ∧ putY y &&& 0xF00F = 0 := by
  revert y; decide

theorem putN_mask (n : Nibble) : putN n &&& 0xF000 = 0 := by
  revert n; decide

theorem putNn_mask (nn : Byte) : putNn nn &&& 0xF000 = 0 := by
  revert nn; decide

/-- A 12-bit address leaves the class nibble free. -/
theorem putNnn_mask (nnn : Addr) : putNnn nnn &&& 0xF000 = 0 := by
  apply BitVec.eq_of_toNat_eq
  simp only [putNnn, BitVec.toNat_and, BitVec.toNat_setWidth]
  have h : nnn.toNat % 2 ^ 16 = nnn.toNat := Nat.mod_eq_of_lt (by have := nnn.isLt; omega)
  rw [h]
  apply Nat.eq_of_testBit_eq
  intro k
  rw [Nat.testBit_and]
  by_cases hk : k < 12
  · have h61440 : ∀ j < 12, Nat.testBit 61440 j = false := by decide
    simp [h61440 k hk]
  · have : nnn.toNat.testBit k = false :=
      Nat.testBit_lt_two_pow (lt_of_lt_of_le nnn.isLt (Nat.pow_le_pow_right (by decide) (by omega)))
    simp [this]


theorem cls : Statement .cls := by unfold Statement; decide

theorem ret : Statement .ret := by unfold Statement; decide

theorem sysAddr (nnn : Addr) : Statement (.sysAddr nnn) := fits (p := 0x0000) (m := 0xF000) (by decide) (putNnn_mask nnn)

theorem jpAddr (nnn : Addr) : Statement (.jpAddr nnn) := fits (p := 0x1000) (m := 0xF000) (by decide) (putNnn_mask nnn)

theorem callAddr (nnn : Addr) : Statement (.callAddr nnn) := fits (p := 0x2000) (m := 0xF000) (by decide) (putNnn_mask nnn)

theorem seVxNn (x : Reg) (nn : Byte) : Statement (.seVxNn x nn) := fits (p := 0x3000) (m := 0xF000) (by decide) (both ((putX_mask x).1) (putNn_mask nn))

theorem sneVxNn (x : Reg) (nn : Byte) : Statement (.sneVxNn x nn) := fits (p := 0x4000) (m := 0xF000) (by decide) (both ((putX_mask x).1) (putNn_mask nn))

theorem seVxVy (x : Reg) (y : Reg) : Statement (.seVxVy x y) := fits (p := 0x5000) (m := 0xF00F) (by decide) (both ((putX_mask x).2.1) ((putY_mask y).2))

theorem ldVxNn (x : Reg) (nn : Byte) : Statement (.ldVxNn x nn) := fits (p := 0x6000) (m := 0xF000) (by decide) (both ((putX_mask x).1) (putNn_mask nn))

theorem addVxNn (x : Reg) (nn : Byte) : Statement (.addVxNn x nn) := fits (p := 0x7000) (m := 0xF000) (by decide) (both ((putX_mask x).1) (putNn_mask nn))

theorem ldVxVy (x : Reg) (y : Reg) : Statement (.ldVxVy x y) := fits (p := 0x8000) (m := 0xF00F) (by decide) (both ((putX_mask x).2.1) ((putY_mask y).2))

theorem orVxVy (x : Reg) (y : Reg) : Statement (.orVxVy x y) := fits (p := 0x8001) (m := 0xF00F) (by decide) (both ((putX_mask x).2.1) ((putY_mask y).2))

theorem andVxVy (x : Reg) (y : Reg) : Statement (.andVxVy x y) := fits (p := 0x8002) (m := 0xF00F) (by decide) (both ((putX_mask x).2.1) ((putY_mask y).2))

theorem xorVxVy (x : Reg) (y : Reg) : Statement (.xorVxVy x y) := fits (p := 0x8003) (m := 0xF00F) (by decide) (both ((putX_mask x).2.1) ((putY_mask y).2))

theorem addVxVy (x : Reg) (y : Reg) : Statement (.addVxVy x y) := fits (p := 0x8004) (m := 0xF00F) (by decide) (both ((putX_mask x).2.1) ((putY_mask y).2))

theorem subVxVy (x : Reg) (y : Reg) : Statement (.subVxVy x y) := fits (p := 0x8005) (m := 0xF00F) (by decide) (both ((putX_mask x).2.1) ((putY_mask y).2))

theorem shrVxVy (x : Reg) (y : Reg) : Statement (.shrVxVy x y) := fits (p := 0x8006) (m := 0xF00F) (by decide) (both ((putX_mask x).2.1) ((putY_mask y).2))

theorem subnVxVy (x : Reg) (y : Reg) : Statement (.subnVxVy x y) := fits (p := 0x8007) (m := 0xF00F) (by decide) (both ((putX_mask x).2.1) ((putY_mask y).2))

theorem shlVxVy (x : Reg) (y : Reg) : Statement (.shlVxVy x y) := fits (p := 0x800E) (m := 0xF00F) (by decide) (both ((putX_mask x).2.1) ((putY_mask y).2))

theorem sneVxVy (x : Reg) (y : Reg) : Statement (.sneVxVy x y) := fits (p := 0x9000) (m := 0xF00F) (by decide) (both ((putX_mask x).2.1) ((putY_mask y).2))

theorem ldIAddr (nnn : Addr) : Statement (.ldIAddr nnn) := fits (p := 0xA000) (m := 0xF000) (by decide) (putNnn_mask nnn)

theorem jpV0Addr (nnn : Addr) : Statement (.jpV0Addr nnn) := fits (p := 0xB000) (m := 0xF000) (by decide) (putNnn_mask nnn)

theorem rndVxNn (x : Reg) (nn : Byte) : Statement (.rndVxNn x nn) := fits (p := 0xC000) (m := 0xF000) (by decide) (both ((putX_mask x).1) (putNn_mask nn))

theorem drwVxVyN (x : Reg) (y : Reg) (n : Nibble) : Statement (.drwVxVyN x y n) := fits (p := 0xD000) (m := 0xF000) (by decide) (both (both ((putX_mask x).1) ((putY_mask y).1)) (putN_mask n))

theorem skpVx (x : Reg) : Statement (.skpVx x) := fits (p := 0xE09E) (m := 0xF0FF) (by decide) (putX_mask x).2.2

theorem sknpVx (x : Reg) : Statement (.sknpVx x) := fits (p := 0xE0A1) (m := 0xF0FF) (by decide) (putX_mask x).2.2

theorem ldVxDt (x : Reg) : Statement (.ldVxDt x) := fits (p := 0xF007) (m := 0xF0FF) (by decide) (putX_mask x).2.2

theorem ldVxN (x : Reg) : Statement (.ldVxN x) := fits (p := 0xF00A) (m := 0xF0FF) (by decide) (putX_mask x).2.2

theorem ldDtVx (x : Reg) : Statement (.ldDtVx x) := fits (p := 0xF015) (m := 0xF0FF) (by decide) (putX_mask x).2.2

theorem ldStVx (x : Reg) : Statement (.ldStVx x) := fits (p := 0xF018) (m := 0xF0FF) (by decide) (putX_mask x).2.2

theorem addIVx (x : Reg) : Statement (.addIVx x) := fits (p := 0xF01E) (m := 0xF0FF) (by decide) (putX_mask x).2.2

theorem ldFVx (x : Reg) : Statement (.ldFVx x) := fits (p := 0xF029) (m := 0xF0FF) (by decide) (putX_mask x).2.2

theorem ldBVx (x : Reg) : Statement (.ldBVx x) := fits (p := 0xF033) (m := 0xF0FF) (by decide) (putX_mask x).2.2

theorem ldIVx (x : Reg) : Statement (.ldIVx x) := fits (p := 0xF055) (m := 0xF0FF) (by decide) (putX_mask x).2.2

theorem ldVxI (x : Reg) : Statement (.ldVxI x) := fits (p := 0xF065) (m := 0xF0FF) (by decide) (putX_mask x).2.2

end Sys2Proof.Laws.EncodedRow
end

