-- ==== Sys2Proof/Tests/Slice0.lean ====
section
/-! SUPPORT. The model's own tests, with expected results from spec/95_test_vectors.md (its ids are in the comments) or by
hand from the rule named, and the witnesses that the hypotheses of the obligations can be met. -/

namespace Sys2Proof.Tests

open Sys2Proof.Machine

set_option maxRecDepth 20000

/-! ### Helpers -/

/-- A running machine with an opcode at 0x200, all else as at power-on. -/
def ready (o : Word) : State := placeOpcode State.reset o

/-- A running machine with an opcode at a given PC. -/
def readyAt (pc o : Word) : State := placeOpcode { State.reset with pc := pc } o

/-- A stack with SP = n - 1 and every entry 0x202. -/
def withDepth (n : Fin 17) (s : State) : State := { s with depth := n, stack := Vector.replicate 16 0x202 }

/-- What the host answers next to `waitKey()`. -/
def withPresses (keys : List (Option (Fin 16))) (s : State) : State :=
  { s with inputs := { s.inputs with keyPresses := ⟨keys, 0⟩ } }

/-- What the host answers next to `getKeys()`. -/
def withMasks (masks : List Word) (s : State) : State :=
  { s with inputs := { s.inputs with keyMasks := ⟨masks, 0⟩ } }

/-- The next random bytes. -/
def withBytes (bytes : List Byte) (s : State) : State :=
  { s with inputs := { s.inputs with randomBytes := ⟨bytes, 0⟩ } }

/-- The next drawn Booleans. -/
def withBits (bits : List Bool) (s : State) : State :=
  { s with inputs := { s.inputs with pressedBits := ⟨bits, 0⟩ } }

/-- The other value of each of the three policies (00_scope.md R7). -/
def otherPolicies (s : State) : State :=
  { s with cfg := { s.cfg with sysPolicy := .nop, vfAliasPolicy := .fault, keyOorPolicy := .notPressed } }

/-- An answer is a next state with the property p. -/
def nextWith (p : State → Bool) : Host.Outcome State Fault Refusal → Bool
  | .next t => p t
  | .fault _ => false
  | .refused _ => false

/-- The pixels that are set, of a display 64 x 32, as a number. -/
def pixelSet (pixels : List (Nat × Nat)) : Nat := pixels.foldl (fun d p => d ||| (1 <<< (p.2 * 64 + p.1))) 0

theorem ready_outcome (o : Word) : (ready o).outcome = none := rfl

theorem ready_display (o : Word) : (ready o).display = 0 := rfl

theorem exists_next {o : Host.Outcome State Fault Refusal} {p : State → Bool} (h : nextWith p o = true) :
    ∃ t, o = .next t ∧ p t = true := by
  cases o with
  | next t => exact ⟨t, rfl, h⟩
  | fault f => cases h
  | refused r => cases h

/-! ### Well-formedness: the one check refuses its two ill-formed terms -/

theorem test_wf_refuses_cls_word : (Instr.sysAddr 0x0E0).wf = false := by decide
theorem test_wf_refuses_ret_word : (Instr.sysAddr 0x0EE).wf = false := by decide
theorem test_wf_admits_sys : (Instr.sysAddr 0x234).wf = true := by decide

/-! ### Decoding: one word of every row of 30_encoding.md R97, written out bit by bit -/

theorem test_decode_cls : decodeTableWord 16 0b0000000011100000 = some .cls := by decide
theorem test_decode_ret : decodeTableWord 16 0b0000000011101110 = some .ret := by decide
theorem test_decode_sysAddr : decodeTableWord 16 0b0000001000110100 = some (.sysAddr 0x234) := by decide
theorem test_decode_jpAddr : decodeTableWord 16 0b0001101000010010 = some (.jpAddr 0xA12) := by decide
theorem test_decode_callAddr : decodeTableWord 16 0b0010001100000001 = some (.callAddr 0x301) := by decide
theorem test_decode_seVxNn : decodeTableWord 16 0b0011000100100011 = some (.seVxNn 0x1 0x23) := by decide
theorem test_decode_sneVxNn : decodeTableWord 16 0b0100101110001111 = some (.sneVxNn 0xB 0x8F) := by decide
theorem test_decode_seVxVy : decodeTableWord 16 0b0101000100100000 = some (.seVxVy 0x1 0x2) := by decide
theorem test_decode_ldVxNn : decodeTableWord 16 0b0110101000001111 = some (.ldVxNn 0xA 0x0F) := by decide
theorem test_decode_addVxNn : decodeTableWord 16 0b0111000111111110 = some (.addVxNn 0x1 0xFE) := by decide
theorem test_decode_ldVxVy : decodeTableWord 16 0b1000000100100000 = some (.ldVxVy 0x1 0x2) := by decide
theorem test_decode_orVxVy : decodeTableWord 16 0b1000001101000001 = some (.orVxVy 0x3 0x4) := by decide
theorem test_decode_andVxVy : decodeTableWord 16 0b1000010101100010 = some (.andVxVy 0x5 0x6) := by decide
theorem test_decode_xorVxVy : decodeTableWord 16 0b1000011110000011 = some (.xorVxVy 0x7 0x8) := by decide
theorem test_decode_addVxVy : decodeTableWord 16 0b1000100110100100 = some (.addVxVy 0x9 0xA) := by decide
theorem test_decode_subVxVy : decodeTableWord 16 0b1000101111000101 = some (.subVxVy 0xB 0xC) := by decide
theorem test_decode_shrVxVy : decodeTableWord 16 0b1000111100000110 = some (.shrVxVy 0xF 0x0) := by decide
theorem test_decode_subnVxVy : decodeTableWord 16 0b1000110111100111 = some (.subnVxVy 0xD 0xE) := by decide
theorem test_decode_shlVxVy : decodeTableWord 16 0b1000000100101110 = some (.shlVxVy 0x1 0x2) := by decide
theorem test_decode_sneVxVy : decodeTableWord 16 0b1001011000010000 = some (.sneVxVy 0x6 0x1) := by decide
theorem test_decode_ldIAddr : decodeTableWord 16 0b1010001100000000 = some (.ldIAddr 0x300) := by decide
theorem test_decode_jpV0Addr : decodeTableWord 16 0b1011111111111110 = some (.jpV0Addr 0xFFE) := by decide
theorem test_decode_rndVxNn : decodeTableWord 16 0b1100001100001111 = some (.rndVxNn 0x3 0x0F) := by decide
theorem test_decode_drwVxVyN : decodeTableWord 16 0b1101000100100101 = some (.drwVxVyN 0x1 0x2 0x5) := by decide
theorem test_decode_skpVx : decodeTableWord 16 0b1110010010011110 = some (.skpVx 0x4) := by decide
theorem test_decode_sknpVx : decodeTableWord 16 0b1110001110100001 = some (.sknpVx 0x3) := by decide
theorem test_decode_ldVxDt : decodeTableWord 16 0b1111000100000111 = some (.ldVxDt 0x1) := by decide
theorem test_decode_ldVxN : decodeTableWord 16 0b1111001100001010 = some (.ldVxN 0x3) := by decide
theorem test_decode_ldDtVx : decodeTableWord 16 0b1111010100010101 = some (.ldDtVx 0x5) := by decide
theorem test_decode_ldStVx : decodeTableWord 16 0b1111011000011000 = some (.ldStVx 0x6) := by decide
theorem test_decode_addIVx : decodeTableWord 16 0b1111001000011110 = some (.addIVx 0x2) := by decide
theorem test_decode_ldFVx : decodeTableWord 16 0b1111100000101001 = some (.ldFVx 0x8) := by decide
theorem test_decode_ldBVx : decodeTableWord 16 0b1111100100110011 = some (.ldBVx 0x9) := by decide
theorem test_decode_ldIVx : decodeTableWord 16 0b1111000101010101 = some (.ldIVx 0x1) := by decide
theorem test_decode_ldVxI : decodeTableWord 16 0b1111001001100101 = some (.ldVxI 0x2) := by decide

/-- E-4: the illegal words. -/
theorem test_decode_illegal :
    ([0x5121, 0x800F, 0x8008, 0x9001, 0xE09F, 0xE000, 0xF000, 0xF0FF].map (decodeTableWord 16)) =
      List.replicate 8 none := by decide

/-- The bytes of an instruction, high byte first, and what follows them (30_encoding.md R90). -/
theorem test_decode_bytes : encodeBytes (.drwVxVyN 1 2 5) = [0xD1, 0x25] ∧
    decode [0xD1, 0x25, 0x12] = .ok (.drwVxVyN 1 2 5, [0x12]) ∧ decode [0xD1] = .error .truncated :=
  ⟨by decide, rfl, rfl⟩

/-- The word placed after reset is the instruction that the next step runs. -/
theorem test_withFetchWord : State.reset.withFetchWord 16 0x6A0F = ready 0x6A0F ∧
    step (State.reset.withFetchWord 16 0x6A0F) = exec (.ldVxNn 0xA 0x0F) (ready 0x6A0F) := ⟨rfl, rfl⟩

/-! ### One step of each instruction -/

/-- P-1. -/
theorem test_cls : nextWith (fun t => decide (t.calls = [.clearDisplay] ∧ t.display = 0 ∧ t.pc = 0x202))
    (step { ready 0x00E0 with display := 5 }) = true := by decide
/-- P3, step 4. -/
theorem test_ret : nextWith (fun t => decide (t.pc = 0x202 ∧ t.sp = -1)) (step (withDepth 1 (readyAt 0x20C 0x00EE))) =
    true := by decide
/-- L1-7. -/
theorem test_ret_underflow : nextWith
    (fun t => decide (t.outcome = some (.faulted (.stackUnderflow 0x200)) ∧ t.halted = true ∧ t.pc = 0x200))
    (step (ready 0x00EE)) = true := by decide
/-- F-1. -/
theorem test_sys_fatal : nextWith
    (fun t => decide (t.outcome = some (.faulted (.illegalInstruction 0x0234 0x200)) ∧ t.halted = true ∧ t.pc = 0x200))
    (step (ready 0x0234)) = true := by decide
/-- F-1 under nop. -/
theorem test_sys_nop : nextWith (fun t => decide (t.outcome = some .executed ∧ t.pc = 0x202 ∧ t.halted = false))
    (step (otherPolicies (ready 0x0234))) = true := by decide
/-- F-3. -/
theorem test_jp : nextWith (fun t => decide (t.pc = 0x300)) (step (ready 0x1300)) = true := by decide
/-- F-2. -/
theorem test_call : nextWith (fun t => decide (t.sp = 0 ∧ t.stack[0] = 0x202 ∧ t.pc = 0x300)) (step (ready 0x2300)) =
    true := by decide
/-- P6, step 17. -/
theorem test_call_overflow : nextWith
    (fun t => decide (t.outcome = some (.faulted (.stackOverflow 0x200)) ∧ t.halted = true ∧ t.sp = 15))
    (step (withDepth 16 (ready 0x2200))) = true := by decide
/-- F-4. -/
theorem test_se_nn : nextWith (fun t => decide (t.pc = 0x204)) (step ((ready 0x3005).setV 0 5)) = true := by decide
/-- F-5. -/
theorem test_sne_nn : nextWith (fun t => decide (t.pc = 0x202)) (step ((ready 0x4005).setV 0 5)) = true := by decide
/-- F-6. -/
theorem test_se_vy : nextWith (fun t => decide (t.pc = 0x204)) (step (((ready 0x5010).setV 0 5).setV 1 5)) = true := by
  decide
/-- F-7. -/
theorem test_sne_vy : nextWith (fun t => decide (t.pc = 0x202)) (step (((ready 0x9010).setV 0 5).setV 1 5)) = true := by
  decide
/-- F-8. -/
theorem test_jp_v0 : nextWith (fun t => decide (t.pc = 0x310)) (step ((ready 0xB300).setV 0 0x10)) = true := by decide
/-- F-9, step 2. -/
theorem test_jp_v0_above_12_bits : nextWith (fun t => decide (t.pc = 0x10FE)) (step ((ready 0xBFFF).setV 0 0xFF)) =
    true := by decide
/-- A-1. -/
theorem test_ld_nn : nextWith (fun t => decide (t.getV 0xA = 0x0F)) (step (ready 0x6A0F)) = true := by decide
/-- A-2. -/
theorem test_add_nn : nextWith (fun t => decide (t.getV 0 = 0x01 ∧ t.getV 0xF = 0)) (step ((ready 0x7002).setV 0 0xFF)) =
    true := by decide
/-- A-3. -/
theorem test_ld_vy : nextWith (fun t => decide (t.getV 1 = 0x12)) (step ((ready 0x8100).setV 0 0x12)) = true := by decide
/-- A-4. -/
theorem test_or : nextWith (fun t => decide (t.getV 0 = 0xFF ∧ t.getV 0xF = 7))
    (step ((((ready 0x8011).setV 0 0xF0).setV 1 0x0F).setV 0xF 7)) = true := by decide
/-- A-5. -/
theorem test_and : nextWith (fun t => decide (t.getV 0 = 0x30)) (step (((ready 0x8012).setV 0 0xF0).setV 1 0x3C)) =
    true := by decide
/-- A-6. -/
theorem test_xor : nextWith (fun t => decide (t.getV 0 = 0xCC)) (step (((ready 0x8013).setV 0 0xF0).setV 1 0x3C)) =
    true := by decide
/-- L1-2. -/
theorem test_add_vy : nextWith (fun t => decide (t.getV 0 = 0 ∧ t.getV 0xF = 1 ∧ t.pc = 0x202))
    (step (((ready 0x8014).setV 0 0xFF).setV 1 1)) = true := by decide
/-- A-8. -/
theorem test_add_vy_to_vf : nextWith (fun t => decide (t.getV 0xF = 1))
    (step (((ready 0x8F04).setV 0xF 0xFF).setV 0 1)) = true := by decide
/-- L1-4. -/
theorem test_sub_wraps : nextWith (fun t => decide (t.getV 0 = 0xFE ∧ t.getV 0xF = 0))
    (step (((ready 0x8015).setV 0 3).setV 1 5)) = true := by decide
/-- A-9. -/
theorem test_sub_equal : nextWith (fun t => decide (t.getV 0 = 0 ∧ t.getV 0xF = 0))
    (step (((ready 0x8015).setV 0 5).setV 1 5)) = true := by decide
/-- A-13. -/
theorem test_shr : nextWith (fun t => decide (t.getV 1 = 2 ∧ t.getV 0xF = 1)) (step ((ready 0x8126).setV 1 5)) =
    true := by decide
/-- A-14. -/
theorem test_shr_vf : nextWith (fun t => decide (t.getV 0xF = 0)) (step ((ready 0x8F06).setV 0xF 3)) = true := by decide
/-- A-11. -/
theorem test_subn : nextWith (fun t => decide (t.getV 1 = 2 ∧ t.getV 0xF = 1))
    (step (((ready 0x8127).setV 1 3).setV 2 5)) = true := by decide
/-- A-12. -/
theorem test_subn_wraps : nextWith (fun t => decide (t.getV 1 = 0xFE ∧ t.getV 0xF = 0))
    (step (((ready 0x8127).setV 1 5).setV 2 3)) = true := by decide
/-- A-15. -/
theorem test_shl : nextWith (fun t => decide (t.getV 1 = 2 ∧ t.getV 0xF = 1)) (step ((ready 0x812E).setV 1 0x81)) =
    true := by decide
/-- A-16. -/
theorem test_shl_vf : nextWith (fun t => decide (t.getV 0xF = 2)) (step ((ready 0x8F0E).setV 0xF 0x81)) = true := by
  decide
/-- I-1. -/
theorem test_ld_i : nextWith (fun t => decide (t.i = 0x300)) (step (ready 0xA300)) = true := by decide
/-- A-18. -/
theorem test_rnd : nextWith (fun t => decide (t.getV 3 = 0x0B)) (step (withBytes [0xAB] (ready 0xC30F))) = true := by
  decide
/-- P4, step 5: the 14 pixels of the wrapped glyph A. -/
theorem test_drw_wraps : nextWith
    (fun t => decide (t.getV 0xF = 0 ∧ t.calls.length = 40 ∧ t.display = pixelSet
      ([(62, 31), (63, 31), (0, 31), (1, 31)] ++ [(62, 0), (1, 0)] ++ [(62, 1), (63, 1), (0, 1), (1, 1)] ++
        [(62, 2), (1, 2)] ++ [(62, 3), (1, 3)])))
    (step ((((ready 0xD125).setI 0x032).setV 1 0x3E).setV 2 0x1F)) = true := by decide
/-- P-3. -/
theorem test_drw_out_of_bounds : nextWith
    (fun t => decide (t.outcome = some (.faulted (.memoryOutOfBounds 0xFFB 0x202)) ∧ t.calls = []))
    (step ((readyAt 0x202 0xD005).setI 0xFFB)) = true := by decide
/-- P-5. -/
theorem test_skp : nextWith (fun t => decide (t.pc = 0x204 ∧ t.calls = [.getKeys]))
    (step (withMasks [0x0020] ((ready 0xE09E).setV 0 5))) = true := by decide
/-- P-8, not_pressed. -/
theorem test_skp_no_such_key : nextWith (fun t => decide (t.pc = 0x202))
    (step (otherPolicies (withMasks [0xFFFF] ((ready 0xE09E).setV 0 0x11)))) = true := by decide
/-- P-6. -/
theorem test_sknp : nextWith (fun t => decide (t.pc = 0x202)) (step (withMasks [0x0020] ((ready 0xE0A1).setV 0 5))) =
    true := by decide
/-- P-7. -/
theorem test_sknp_skips : nextWith (fun t => decide (t.pc = 0x204)) (step (withMasks [0] ((ready 0xE3A1).setV 3 3))) =
    true := by decide
/-- T-1, the last step. -/
theorem test_ld_vx_dt : nextWith (fun t => decide (t.getV 1 = 0xFD)) (step ((ready 0xF107).setDt 0xFD)) = true := by
  decide
/-- L1-10, a step with no key. -/
theorem test_key_wait_retry : nextWith
    (fun t => decide (t.pc = 0x200 ∧ t.outcome = some .retry ∧ t.calls = [.waitKey]))
    (step (withPresses [none, none, some 0xC] (ready 0xF30A))) = true := by decide
/-- L1-10, the step with a key. -/
theorem test_key_wait_key : nextWith (fun t => decide (t.pc = 0x202 ∧ t.getV 3 = 0x0C))
    (step (withPresses [some 0xC] (ready 0xF30A))) = true := by decide
/-- R278: the most recent press of two is popped, and the other one stays. -/
theorem test_key_wait_keypad : nextWith
    (fun t => decide (t.getV 3 = 0x0C ∧ t.inputs.keypad = some ⟨0x1000, [0x5]⟩))
    (step ((ready 0xF30A).withKeypad ⟨0x1000, [0xC, 0x5]⟩)) = true := by decide
/-- R278: the mask is answered again, and key 5 is not held. -/
theorem test_sknp_keypad : nextWith (fun t => decide (t.pc = 0x204 ∧ t.inputs.keypad = some ⟨0x1000, []⟩))
    (step (((ready 0xE0A1).setV 0 5).withKeypad ⟨0x1000, []⟩)) = true := by decide
/-- T-1, step 2. -/
theorem test_ld_dt : nextWith (fun t => decide (t.dt = 0xFF)) (step ((ready 0xF015).setV 0 0xFF)) = true := by decide
/-- L1-9, step 2. -/
theorem test_ld_st : nextWith (fun t => decide (t.st = 1 ∧ t.soundEnabled = true ∧ t.calls = [.enableSound]))
    (step ((ready 0xF018).setV 0 1)) = true := by decide
/-- T-2. -/
theorem test_ld_st_zero : nextWith (fun t => decide (t.st = 0 ∧ t.soundEnabled = false ∧ t.calls = []))
    (step (ready 0xF018)) = true := by decide
/-- I-3. -/
theorem test_add_i_wraps : nextWith (fun t => decide (t.i = 1 ∧ t.getV 0xF = 0))
    (step (((ready 0xF01E).setI 0xFFFF).setV 0 2)) = true := by decide
/-- I-4. -/
theorem test_ld_f : nextWith (fun t => decide (t.i = 0x032)) (step ((ready 0xF029).setV 0 0xA)) = true := by decide
/-- I-6. -/
theorem test_ld_f_no_digit : nextWith
    (fun t => decide (t.outcome = some (.faulted (.invalidDigit 0x10 0x202)) ∧ t.i = 0))
    (step ((readyAt 0x202 0xF029).setV 0 0x10)) = true := by decide
/-- I-7. -/
theorem test_ld_b : nextWith (fun t => decide ([0x300, 0x301, 0x302].map t.readMem = [2, 5, 4]))
    (step (((ready 0xF033).setI 0x300).setV 0 0xFE)) = true := by decide
/-- I-9. -/
theorem test_ld_b_out_of_bounds : nextWith
    (fun t => decide (t.outcome = some (.faulted (.memoryOutOfBounds 0xFFE 0x202)) ∧ t.readMem 0xFFE = 0))
    (step (((readyAt 0x202 0xF033).setI 0xFFE).setV 0 0xFE)) = true := by decide
/-- I-10. -/
theorem test_store_block : nextWith (fun t => decide ([0x309, 0x30A, 0x30B].map t.readMem = [2, 9, 0] ∧ t.i = 0x309))
    (step ((((ready 0xF155).setI 0x309).setV 0 2).setV 1 9)) = true := by decide
/-- I-12. -/
theorem test_store_block_out_of_bounds : nextWith
    (fun t => decide (t.outcome = some (.faulted (.memoryOutOfBounds 0xFF1 0x202)) ∧ t.readMem 0xFF1 = 0))
    (step (((readyAt 0x202 0xFF55).setI 0xFF1).setV 0 7)) = true := by decide
/-- I-13, with V1 loaded as well. -/
theorem test_load_block : nextWith (fun t => decide (t.getV 0 = 0xF0 ∧ t.getV 1 = 0x90 ∧ t.getV 2 = 7))
    (step ((ready 0xF165).setV 2 7)) = true := by decide

/-! ### The cycle and the host's operations -/

/-- C-1. -/
theorem test_fetch_limit : nextWith
    (fun t => decide (t.outcome = some (.faulted (.memoryOutOfBounds 0xFFF 0xFFF)) ∧ t.halted = true))
    (step { ready 0 with pc := 0xFFF }) = true := by decide
/-- C-3, step 2: a fetch at an odd PC. -/
theorem test_odd_pc : nextWith (fun t => decide (t.getV 0 = 0x1A ∧ t.pc = 0x205)) (step (readyAt 0x203 0x601A)) =
    true := by decide
/-- P7a. -/
theorem test_illegal : nextWith
    (fun t => decide (t.outcome = some (.faulted (.illegalInstruction 0x8008 0x202)) ∧ t.pc = 0x202))
    (step (readyAt 0x202 0x8008)) = true := by decide
/-- A-20. -/
theorem test_vf_alias_refused : step (otherPolicies (ready 0x8F04)) = .refused .vfAlias := rfl
/-- C-5. -/
theorem test_halted : step State.reset = .fault .alreadyHalted := rfl
/-- L1-9, the first tick. -/
theorem test_tick_silences :
    let t := tick { ready 0 with st := 1, soundEnabled := true, audible := true }
    (t.st, t.soundEnabled, t.calls) = (0, false, [.disableSound]) := by decide
/-- T-6. -/
theorem test_tick_at_zero : tick (ready 0) = ready 0 := by decide
/-- L1-11: a load from a machine with its font overwritten. -/
theorem test_load : nextWith
    (fun t => decide ((t.pc, t.halted, t.readMem 0, t.readMem 0x200, t.readMem 0x201) = (0x200, false, 0xF0, 0x12, 0x34)))
    (load [0x12, 0x34] (State.reset.writeMem 0 0x11)) = true := by decide

/-! ### The disassembler's text -/

/-- E-6. -/
theorem test_format : [Instr.drwVxVyN 1 2 5, .ldVxNn 0xA 0x0F, .shrVxVy 1 2, .ldVxN 3, .ldIVx 1, .ldVxI 2].map format =
    ["DRW V1, V2, 0x5", "LD VA, 0x0F", "SHR V1, V2", "LD V3, K", "LD [I], V1", "LD V2, [I]"] := by decide
/-- E-6, continued. -/
theorem test_format_tokens :
    [Instr.jpV0Addr 0x300, .sknpVx 3, .sysAddr 0x234, .ldFVx 0, .ldBVx 0, .ldIAddr 0x300, .ldVxDt 1, .ldDtVx 0].map format =
      ["JP V0, 0x300", "SKNP V3", "SYS 0x234", "LD F, V0", "LD B, V0", "LD I, 0x300", "LD V1, DT", "LD DT, V0"] := by
  decide
/-- E-6, its last two, and L1-14. -/
theorem test_format_last : [Instr.ldStVx 0, .addIVx 2, .ret].map format = ["LD ST, V0", "ADD I, V2", "RET"] := by decide
/-- L1-13. -/
theorem test_dump : dump [0x00E0, 0x1200] = .ok "000000  00E0  CLS\n000002  1200  JP 0x200" := by rfl
/-- E-8. -/
theorem test_dump_illegal : dump [0x00E0, 0x5121] = .error (.lookupError 0x5121) := by rfl

/-! ### Witnesses: concrete states and operands that meet the hypotheses of each obligation, for each of its clauses -/

theorem witness_DecodeOfEncode :
    (Instr.drwVxVyN 0xF 0xF 0xF).wf = true ∧ (Instr.sysAddr 0xFFF).wf = true := by decide

theorem witness_EncodeOfDecode : disassemble 0xFFFF = .error (.lookupError 0xFFFF) ∧
    disassemble 0x0000 = .ok (.sysAddr 0) ∧ disassemble 0xFF65 = .ok (.ldVxI 0xF) := ⟨rfl, rfl, rfl⟩

theorem witness_FirstMatchIsDecoderByClass : disassemble 0xE09E = .ok (.skpVx 0) ∧ decodeByClass 0xE09E = some (.skpVx 0) :=
  ⟨rfl, rfl⟩

theorem witness_OnlyTwoPairsOverlap : ∃ a b, (0 : Nat) < 2 ∧ opcodeTable[0]? = some a ∧ opcodeTable[2]? = some b ∧
    a.matches 0x00E0 = true ∧ b.matches 0x00E0 = true := ⟨_, _, by decide, rfl, rfl, rfl, rfl⟩

theorem witness_FormatIsInjective :
    disassemble 0x6A0F = .ok (.ldVxNn 0xA 0x0F) ∧ format (.ldVxNn 0xA 0x0F) = format (.ldVxNn 0xA 0x0F) := ⟨rfl, rfl⟩

/-- Two decodable opcodes, then an illegal one. -/
theorem witness_DumpIsTextOrFirstLookupError : (∀ o ∈ [(0x00E0 : Word), 0x1200], ∃ i, disassemble o = .ok i) ∧
    disassemble 0x5121 = .error (.lookupError 0x5121) := by
  refine ⟨fun o h => ?_, rfl⟩
  simp only [List.mem_cons, List.not_mem_nil, or_false] at h
  rcases h with rfl | rfl
  · exact ⟨_, rfl⟩
  · exact ⟨_, rfl⟩

theorem witness_StepWhileHaltedChangesNothing : State.reset.halted = true := rfl

/-- The lowest PC that cannot be fetched from. -/
theorem witness_FetchPastLimitFaults :
    ({ ready 0 with pc := 4095 } : State).halted = false ∧ 4094 < ({ ready 0 with pc := 4095 } : State).pc.toNat := by
  decide

/-- The highest PC that can be fetched from. -/
theorem witness_StepRunsDecodedInstruction :
    (readyAt 4094 0xD12F).halted = false ∧ (readyAt 4094 0xD12F).pc.toNat ≤ 4094 ∧
      (0xD12F : Word).toNat = opcodeNat (readyAt 4094 0xD12F) ∧ disassemble 0xD12F = .ok (.drwVxVyN 1 2 0xF) :=
  ⟨by decide, by decide, by decide, rfl⟩

theorem witness_StepFaultsOnIllegalOpcode :
    (readyAt 4094 0x8008).halted = false ∧ (readyAt 4094 0x8008).pc.toNat ≤ 4094 ∧
      (0x8008 : Word).toNat = opcodeNat (readyAt 4094 0x8008) ∧ disassemble 0x8008 = .error (.lookupError 0x8008) :=
  ⟨by decide, by decide, by decide, rfl⟩

theorem witness_FaultingStepOnlyHalts : (ready 0x00EE).halted = false ∧ ∃ t, step (ready 0x00EE) = .next t ∧
    decide (t.outcome = some (.faulted (.stackUnderflow 0x200))) = true := ⟨rfl, exists_next (by decide)⟩

/-- Each way of ending: next, skip, an absolute PC, retry, a raise. -/
theorem witness_EveryInstructionEndsOneWay :
    (∃ t, exec .cls (ready 0) = .next t ∧ decide (t.pc = (ready 0).pc + 2) = true) ∧
    (∃ t, exec (.seVxNn 0 0) (ready 0) = .next t ∧ decide (t.pc = (ready 0).pc + 4) = true) ∧
    (∃ t, exec (.jpV0Addr 0xFFF) ((ready 0).setV 0 0xFF) = .next t ∧ decide (t.pc = 0x10FE) = true) ∧
    (∃ t, exec (.ldVxN 0xF) (withPresses [none] (ready 0)) = .next t ∧ decide (t.outcome = some .retry) = true) ∧
    (∃ t, exec .ret (ready 0) = .next t ∧ decide (t.outcome = some (.faulted (.stackUnderflow 0x200))) = true) :=
  ⟨exists_next (by decide), exists_next (by decide), exists_next (by decide), exists_next (by decide),
    exists_next (by decide)⟩

theorem witness_RefusedExactlyOnVfAlias :
    ((otherPolicies (ready 0)).cfg.vfAliasPolicy = .fault ∧ isFlagAlias (.addVxVy 0xF 0)) ∧
    ¬ ((ready 0).cfg.vfAliasPolicy = .fault ∧ isFlagAlias (.addVxVy 0xF 0)) :=
  ⟨⟨rfl, 0, .inl rfl⟩, fun h => absurd h.1 (by decide)⟩

theorem witness_SysAddrByPolicy :
    (otherPolicies (ready 0)).cfg.sysPolicy = .nop ∧ (ready 0).cfg.sysPolicy = .fatal := ⟨rfl, rfl⟩

/-- One entry, 16 entries and none. -/
theorem witness_RetPopsOrUnderflows : (withDepth 1 (ready 0)).sp = ((0 : Fin 16).val : Int) ∧
    (withDepth 16 (ready 0)).sp = ((15 : Fin 16).val : Int) ∧ (withDepth 0 (ready 0)).sp = -1 := by decide

theorem witness_JpAddrSetsPc : (ready 0x1FFF).halted = false ∧ (0xFFF : Addr) = 0xFFF := ⟨rfl, rfl⟩

/-- No entry, 15 entries and 16. -/
theorem witness_CallPushesOrOverflows : (withDepth 0 (ready 0)).sp + 1 = ((0 : Fin 16).val : Int) ∧
    (withDepth 15 (ready 0)).sp + 1 = ((15 : Fin 16).val : Int) ∧ (withDepth 16 (ready 0)).sp = 15 := by decide

/-- A call with 15 entries in use, and a callee that leaves PC and a register changed. -/
theorem witness_RetResumesAfterCall : ∃ t u : State, (withDepth 15 (ready 0)).sp < 15 ∧
    exec (.callAddr 0x300) (withDepth 15 (ready 0)) = .next t ∧ u.sp = t.sp ∧ u.stack = t.stack ∧ u.pc = 0x30A ∧
    u.getV 3 = 9 :=
  ⟨_, ({ ((withDepth 15 (ready 0)).push ((withDepth 15 (ready 0)).pc + 2)) with pc := 0x30A } : State).setV 3 9,
    by decide, rfl, rfl, rfl, rfl, by decide⟩

/-- The two cases of the hypothesis of ADD, SUB, SUBN, SHR and SHL: x = F under text_order, and x = 0 under fault. -/
theorem witness_flag_writes : ((ready 0).cfg.vfAliasPolicy = .textOrder ∨ (0xF : Reg) ≠ Reg.vf) ∧
    ((otherPolicies (ready 0)).cfg.vfAliasPolicy = .textOrder ∨ (0 : Reg) ≠ Reg.vf) := by decide

/-- The highest digit and the lowest value that is none. -/
theorem witness_LdFPointsAtGlyph : (((ready 0).setV 3 0xF).getV 3).toNat ≤ 0xF ∧
    (((ready 0).setV 3 0x10).getV 3).toNat > 0xF := by decide

theorem witness_LdBStoresDecimalDigits :
    MemCanonical ((ready 0xF033).setI 4093) ∧ ((ready 0xF033).setI 4093).i.toNat + 2 ≤ 4095 ∧
      ((ready 0xF033).setI 4094).i.toNat + 2 > 4095 := ⟨by unfold MemCanonical; decide, by decide, by decide⟩

theorem witness_LdIVxStoresRegisterBlock :
    MemCanonical ((ready 0xFF55).setI 4080) ∧ ((ready 0xFF55).setI 4080).i.toNat + (0xF : Reg).val ≤ 4095 ∧
      ((ready 0xFF55).setI 4081).i.toNat + (0xF : Reg).val > 4095 := ⟨by unfold MemCanonical; decide, by decide, by decide⟩

theorem witness_LdVxILoadsRegisterBlock : ((ready 0xFF65).setI 4080).i.toNat + (0xF : Reg).val ≤ 4095 ∧
    ((ready 0xFF65).setI 4081).i.toNat + (0xF : Reg).val > 4095 := by decide

/-- P8, steps 4 and 6 next to each other: a block store over the opcode that is fetched next. -/
def selfModifying : State := (((readyAt 0x206 0xF155).setI 0x208).setV 0 0x70).setV 1 0x05

theorem witness_StoreIsSeenByNextFetch : MemCanonical selfModifying ∧ selfModifying.halted = false ∧
    selfModifying.i.toNat + (1 : Reg).val ≤ 4095 ∧ selfModifying.pc.toNat ≤ 4092 ∧
    selfModifying.i.toNat + (0 : Reg).val = selfModifying.pc.toNat + 2 ∧ (0 : Reg) < 1 ∧
    (∃ t, exec (.ldIVx 1) selfModifying = .next t ∧ decide (t.pc = 0x208) = true) ∧
    (0x7005 : Word).toNat = (selfModifying.getV 0).toNat * 256 + (selfModifying.getV (0 + 1)).toNat ∧
    disassemble 0x7005 = .ok (.addVxNn 0 5) :=
  ⟨by unfold MemCanonical; decide, by decide, by decide, by decide, by decide, by decide, exists_next (by decide),
    by decide, rfl⟩

theorem witness_DrawPixelXorsOnePixel : 63 < (ready 0).cfg.displayW ∧ 0 < (ready 0).cfg.displayW ∧
    ((0, 31) : Nat × Nat) ≠ (63, 31) := by decide

/-- The glyph A of P4 at a corner of a display in which pixel (1, 31) is set, and beside it the two edges of the bound. -/
def cornerSprite : State := { (((ready 0xD125).setI 0x032).setV 1 0x3E).setV 2 0x1F with display := pixelSet [(1, 31)] }

theorem witness_DrwXorsWrappedSprite : spriteFits cornerSprite ∧ cornerSprite.i.toNat + (5 : Nibble).toNat ≤ 4095 ∧
    (∃ r < (5 : Nibble).toNat, ∃ c < 8, spriteBit cornerSprite r c = true ∧
      cornerSprite.pixel (((cornerSprite.getV 1).toNat + c) % 64) (((cornerSprite.getV 2).toNat + r) % 32) = true) ∧
    (∀ r < (5 : Nibble).toNat, ∀ c < 8, ((20, 20) : Nat × Nat) ≠
      (((cornerSprite.getV 1).toNat + c) % 64, ((cornerSprite.getV 2).toNat + r) % 32)) :=
  ⟨by unfold spriteFits; decide, by decide, ⟨0, by decide, 3, by decide, by decide⟩, by decide⟩

theorem witness_DrwXorsWrappedSprite_without_collision : spriteFits (ready 0) ∧
    ((ready 0).setI 4080).i.toNat + (0xF : Nibble).toNat ≤ 4095 ∧
    (∀ r < (0xF : Nibble).toNat, ∀ c < 8, spriteBit ((ready 0).setI 4080) r c = true →
      ((ready 0).setI 4080).pixel (((ready 0).getV 0).toNat + c) (((ready 0).getV 0).toNat + r) = false) ∧
    ((ready 0).setI 4081).i.toNat + (0xF : Nibble).toNat > 4095 :=
  ⟨by unfold spriteFits; decide, by decide, by decide, by decide⟩

/-- P4, steps 5 and 6, from a clear display: two draws of glyph A. -/
theorem witness_DrwTwiceCancels : (1 : Reg) ≠ Reg.vf ∧ (2 : Reg) ≠ Reg.vf ∧
    ({ cornerSprite with display := 0 } : State).i.toNat + (5 : Nibble).toNat ≤ 4095 ∧
    (∃ t, exec (.drwVxVyN 1 2 5) { cornerSprite with display := 0 } = .next t ∧
      nextWith (fun u => decide (u.display = 0 ∧ u.getV 0xF = 1)) (exec (.drwVxVyN 1 2 5) t) = true) ∧
    spriteFits { cornerSprite with display := 0 } ∧ spriteBit cornerSprite 0 0 = true :=
  ⟨by decide, by decide, by decide, exists_next (p := fun t => nextWith _ (exec (.drwVxVyN 1 2 5) t)) (by decide),
    by unfold spriteFits; decide, by decide⟩

/-- A sprite with no set bit. -/
theorem witness_DrwTwiceCancels_blank :
    ∀ r < (5 : Nibble).toNat, ∀ c < 8, spriteBit ((ready 0).setI 4090) r c = false := by decide

/-- The highest key, and the lowest value that is none under each policy. -/
theorem witness_KeySkipsTestOneKey : (((ready 0).setV 4 15).getV 4).toNat ≤ 15 ∧
    ((((ready 0).setV 4 16).getV 4).toNat > 15 ∧ ((ready 0).setV 4 16).cfg.keyOorPolicy = .draw) ∧
    (((otherPolicies (ready 0)).setV 4 16).getV 4).toNat > 15 ∧
    ((otherPolicies (ready 0)).setV 4 16).cfg.keyOorPolicy = .notPressed ∧
    (((ready 0).setV 4 15).withKeypad ⟨0x8000, []⟩).inputs.keypad = some ⟨0x8000, []⟩ ∧
    ((((ready 0).setV 4 15).withKeypad ⟨0x8000, []⟩).getV 4).toNat ≤ 15 := by decide

theorem witness_KeyWaitRetriesOrLoadsKey : (withPresses [none] (ready 0)).keyPress = none ∧
    (withPresses [some 0] (ready 0)).keyPress = some 0 ∧ (withPresses [some 15] (ready 0)).keyPress = some 15 ∧
    ((ready 0).withKeypad ⟨0, []⟩).inputs.keypad = some ⟨0, []⟩ ∧ ((ready 0).withKeypad ⟨0, []⟩).keyPress = none ∧
    ((ready 0).withKeypad ⟨0, [15, 0]⟩).keyPress = some 15 := by decide

theorem witness_LdStEnablesSound : (((ready 0).setV 2 1).getV 2).toNat > 0 ∧ (((ready 0).setV 2 0).getV 2).toNat = 0 := by
  decide

/-- ST = 1 and ST = 0 with the latch set, and ST = 2 with it set. -/
theorem witness_TickCountsDownAndSilences :
    (((ready 0).setSt 1).st.toNat ≤ 1 ∧ (((ready 0).setSt 1).setSoundEnabled true).soundEnabled = true) ∧
    ((ready 0).st.toNat ≤ 1 ∧ ((ready 0).setSoundEnabled true).soundEnabled = true) ∧
    ¬ (((ready 0).setSt 2).st.toNat ≤ 1 ∧ (((ready 0).setSt 2).setSoundEnabled true).soundEnabled = true) := by decide

/-- ROMs of 3584 bytes and of 3585 bytes. -/
theorem witness_LoadResetsAndCopiesRom :
    (List.replicate 3584 (0 : Byte)).length ≤ 3584 ∧ 3584 < (List.replicate 3585 (0 : Byte)).length := by
  simp only [List.length_replicate]
  omega

theorem witness_HaltedChangesOnlyByTheseOperations :
    State.reset.halted = true ∧ FaultHalts (ready 0x00EE) ∧ (ready 0x00EE).halted = false :=
  ⟨rfl, fun _ h => absurd h (by simp [ready_outcome]), rfl⟩

theorem witness_HaltedMachineIsFrozenUntilLoad :
    State.reset.halted = true ∧ ∀ rom, HostOp.load rom ∉ [HostOp.tick, .step, .halt, .tick] := by
  refine ⟨rfl, fun rom h => ?_⟩
  simp at h

/-- A register that is no destination, one that is no flag, and VF under an instruction that is none of the six. -/
theorem witness_RegistersChangeOnlyAsNamed :
    (∃ t, exec (.addVxVy 1 2) (ready 0) = .next t ∧ decide (t.pc = 0x202) = true) ∧
    ¬ isDestination 3 (.addVxVy 1 2) ∧ ¬ ((3 : Reg) = Reg.vf ∧ writesFlag (.addVxVy 1 2)) ∧
    (∃ t, exec (.ldVxI 0xE) (ready 0) = .next t ∧ decide (t.pc = 0x202) = true) ∧
    ¬ isDestination Reg.vf (.ldVxI 0xE) ∧ ¬ (Reg.vf = Reg.vf ∧ writesFlag (.ldVxI 0xE)) :=
  ⟨exists_next (by decide), by simp [isDestination], fun h => absurd h.1 (by decide), exists_next (by decide),
    by simp only [isDestination]; decide, by simp [writesFlag]⟩

theorem witness_OnlyFourInstructionsReachMemory : ¬ reachesMemory (.ldStVx 3) ∧
    ∃ t, exec (.ldStVx 3) (ready 0) = .next t ∧ decide (t.pc = 0x202) = true :=
  ⟨by simp [reachesMemory], exists_next (by decide)⟩

/-- A byte that changes, at the top of memory. -/
theorem witness_StoresStayInTheirRange :
    ∃ t, exec (.ldBVx 3) (((ready 0).setI 4093).setV 3 255) = .next t ∧
      decide (t.readMem 4095 ≠ (((ready 0).setI 4093).setV 3 255).readMem 4095) = true := exists_next (by decide)

theorem witness_OnlyListedOperationsMakeCalls :
    (¬ makesCall (.ldDtVx 3) ∧ ∃ t, exec (.ldDtVx 3) (ready 0) = .next t ∧ decide (t.pc = 0x202) = true) ∧
    (((ready 0).getV 3 = 0) ∧ ∃ t, exec (.ldStVx 3) (ready 0) = .next t ∧ decide (t.pc = 0x202) = true) :=
  ⟨⟨by simp [makesCall], exists_next (by decide)⟩, by decide, exists_next (by decide)⟩

/-- A running machine that meets the invariants, and its next step. -/
theorem witness_StepKeepsInvariants : Inv (ready 0x2300) ∧ ∃ t, step (ready 0x2300) = .next t ∧
    decide (t.pc = 0x300) = true := by
  refine ⟨⟨?_, ?_, ?_, ?_, ?_⟩, exists_next (by decide)⟩
  · unfold MemCanonical; decide
  · unfold PcBounded; decide
  · unfold SoundLatched; decide
  · exact fun _ h => absurd h (by simp [ready_outcome])
  · unfold DisplayBounded
    exact ⟨by decide, by rw [ready_display]; exact Nat.two_pow_pos _⟩

theorem witness_HostRunsKeepInvariants : Inv State.reset := by
  refine ⟨?_, ?_, ?_, ?_, ?_⟩
  · unfold MemCanonical; decide
  · unfold PcBounded; decide
  · unfold SoundLatched; decide
  · exact fun _ h => absurd h (by simp [State.reset])
  · exact ⟨by decide, by simp [State.reset]⟩

end Sys2Proof.Tests
end

/-! Decoding and encoding are inverse (30_encoding.md R91-R102). Every opcode-table row reads exactly the bits that
its mask leaves free, so what a matching row builds encodes back to the opcode; and any two rows after those of CLS and
RET clash in a bit that both fix, so a matching row is the first one. -/

namespace Sys2Proof.Encoding

/-! ### Fields: what an operand's field holds, and what a field's operand puts back (30_encoding.md R91-R93) -/

/-- A field is below 2^k when its mask, shifted down, is. -/
theorem extract_toNat_lt {o mask : Word} {shift k : Nat} (h : mask.toNat >>> shift < 2 ^ k) :
    (extract o mask shift).toNat < 2 ^ k := by
  simp only [extract, BitVec.toNat_ushiftRight, BitVec.toNat_and, Nat.shiftRight_and_distrib]
  exact Nat.and_lt_two_pow _ h

@[simp] theorem fieldX_putX (x : Reg) : fieldX (putX x) = x := by revert x; decide

@[simp] theorem fieldY_putY (y : Reg) : fieldY (putY y) = y := by revert y; decide

@[simp] theorem fieldN_putN (n : Nibble) : fieldN (putN n) = n := by revert n; decide

@[simp] theorem fieldNn_putNn (nn : Byte) : fieldNn (putNn nn) = nn := by revert nn; decide

@[simp] theorem fieldNnn_putNnn (nnn : Addr) : fieldNnn (putNnn nnn) = nnn := by
  apply BitVec.eq_of_toNat_eq
  have h : nnn.toNat &&& 2 ^ 12 - 1 = nnn.toNat := by
    rw [Nat.and_two_pow_sub_one_eq_mod, Nat.mod_eq_of_lt nnn.isLt]
  have := nnn.isLt
  simp [fieldNnn, putNnn, extract] at h ⊢
  omega

theorem putX_fieldX (o : Word) : putX (fieldX o) = o &&& 0x0F00 := by
  have h : (extract o 0x0F00 8).toNat < 2 ^ 4 := extract_toNat_lt (by decide)
  have hv : (fieldX o).val = (extract o 0x0F00 8).toNat := Nat.mod_eq_of_lt h
  rw [putX, hv, BitVec.ofNat_toNat, BitVec.setWidth_eq, extract]
  ext i hi
  interval_cases i <;> simp

theorem putY_fieldY (o : Word) : putY (fieldY o) = o &&& 0x00F0 := by
  have h : (extract o 0x00F0 4).toNat < 2 ^ 4 := extract_toNat_lt (by decide)
  have hv : (fieldY o).val = (extract o 0x00F0 4).toNat := Nat.mod_eq_of_lt h
  rw [putY, hv, BitVec.ofNat_toNat, BitVec.setWidth_eq, extract]
  ext i hi
  interval_cases i <;> simp

/-- A field in the low k bits keeps its value when it is cut to k bits and widened again. -/
theorem setWidth_extract {mask : Word} {k : Nat} (o : Word) (h : mask.toNat < 2 ^ k) :
    ((extract o mask 0).setWidth k).setWidth 16 = o &&& mask := by
  have hlt : (o.toNat &&& mask.toNat) < 2 ^ k := Nat.and_lt_two_pow _ h
  apply BitVec.eq_of_toNat_eq
  rw [extract, BitVec.ushiftRight_zero, BitVec.toNat_setWidth, BitVec.toNat_setWidth, BitVec.toNat_and,
    Nat.mod_eq_of_lt hlt, ← BitVec.toNat_and, Nat.mod_eq_of_lt (o &&& mask).isLt]

theorem putN_fieldN (o : Word) : putN (fieldN o) = o &&& 0x000F := setWidth_extract o (by decide)

theorem putNn_fieldNn (o : Word) : putNn (fieldNn o) = o &&& 0x00FF := setWidth_extract o (by decide)

theorem putNnn_fieldNnn (o : Word) : putNnn (fieldNnn o) = o &&& 0x0FFF := setWidth_extract o (by decide)

/-! An opcode holds an operand exactly when it has that operand's bits in the field's position. -/

theorem fieldX_eq_iff {o : Word} {x : Reg} : fieldX o = x ↔ o &&& 0x0F00 = putX x := by
  rw [← putX_fieldX]
  exact ⟨congrArg putX, fun h => by simpa using congrArg fieldX h⟩

theorem fieldY_eq_iff {o : Word} {y : Reg} : fieldY o = y ↔ o &&& 0x00F0 = putY y := by
  rw [← putY_fieldY]
  exact ⟨congrArg putY, fun h => by simpa using congrArg fieldY h⟩

theorem fieldN_eq_iff {o : Word} {n : Nibble} : fieldN o = n ↔ o &&& 0x000F = putN n := by
  rw [← putN_fieldN]
  exact ⟨congrArg putN, fun h => by simpa using congrArg fieldN h⟩

theorem fieldNn_eq_iff {o : Word} {nn : Byte} : fieldNn o = nn ↔ o &&& 0x00FF = putNn nn := by
  rw [← putNn_fieldNn]
  exact ⟨congrArg putNn, fun h => by simpa using congrArg fieldNn h⟩

theorem fieldNnn_eq_iff {o : Word} {nnn : Addr} : fieldNnn o = nnn ↔ o &&& 0x0FFF = putNnn nnn := by
  rw [← putNnn_fieldNnn]
  exact ⟨congrArg putNnn, fun h => by simpa using congrArg fieldNnn h⟩

/-! An operand's bits lie in its own field and in no other field of its format (R93). -/

@[simp] theorem putX_and_fields (x : Reg) : putX x &&& 0x0F00#16 = putX x ∧ putX x &&& 0x00F0#16 = 0 ∧
    putX x &&& 0x000F#16 = 0 ∧ putX x &&& 0x00FF#16 = 0 := by revert x; decide

@[simp] theorem putY_and_fields (y : Reg) : putY y &&& 0x0F00#16 = 0 ∧ putY y &&& 0x00F0#16 = putY y ∧
    putY y &&& 0x000F#16 = 0 := by revert y; decide

@[simp] theorem putN_and_fields (n : Nibble) : putN n &&& 0x0F00#16 = 0 ∧ putN n &&& 0x00F0#16 = 0 ∧
    putN n &&& 0x000F#16 = putN n := by revert n; decide

@[simp] theorem putNn_and_fields (nn : Byte) : putNn nn &&& 0x0F00#16 = 0 ∧ putNn nn &&& 0x00FF#16 = putNn nn := by
  revert nn; decide

@[simp] theorem putNnn_and_field (nnn : Addr) : putNnn nnn &&& 0x0FFF#16 = putNnn nnn :=
  fieldNnn_eq_iff.mp (fieldNnn_putNnn nnn)

/-! ### The rows of the opcode table (R97) -/

/-- The row at the place of an instruction's constructor builds it back from its own opcode: the row's field readings
undo the placing of the operands. -/
theorem build_encode_of_row (i : Instr) : ∃ e, opcodeTable[i.ctorIdx]? = some e ∧ e.build (encode i) = i := by
  cases i <;> refine ⟨_, rfl, ?_⟩ <;>
    simp [encode, Instr.pattern, Instr.fieldBits, BitVec.and_or_distrib_right, fieldX_eq_iff, fieldY_eq_iff,
      fieldN_eq_iff, fieldNn_eq_iff, fieldNnn_eq_iff]

/-- What a row builds from an opcode has the row's pattern, and for its fields the opcode's bits outside the row's
mask. -/
theorem pattern_fieldBits_build (o : Word) : ∀ e ∈ opcodeTable,
    (e.build o).pattern = e.pattern ∧ (e.build o).fieldBits = o &&& ~~~e.mask := by
  simp only [opcodeTable, opcodeRows1, opcodeRows2, opcodeRows3, List.cons_append, List.nil_append,
    List.forall_mem_cons]
  simp [Instr.pattern, Instr.fieldBits, putX_fieldX, putY_fieldY, putN_fieldN, putNn_fieldNn, putNnn_fieldNnn,
    ← BitVec.and_or_distrib_left]

theorem TableRow.matches_iff {e : TableRow} {o : Word} : e.matches o = true ↔ o &&& e.mask = e.pattern := beq_iff_eq

/-- A row that matches an opcode builds an instruction with that opcode: the mask splits the opcode in two. -/
theorem encode_build {e : TableRow} {o : Word} (he : e ∈ opcodeTable) (hm : e.matches o = true) :
    encode (e.build o) = o := by
  obtain ⟨hp, hf⟩ := pattern_fieldBits_build o e he
  rw [encode, hp, hf, ← TableRow.matches_iff.mp hm, ← BitVec.and_or_distrib_left, BitVec.or_not_self,
    BitVec.and_allOnes]

/-- No row asks for a bit outside its mask. -/
theorem pattern_and_mask : ∀ e ∈ opcodeTable, e.pattern &&& e.mask = e.pattern := by decide

/-- The row that builds an instruction from its opcode matches that opcode. -/
theorem exists_row_matches_encode (i : Instr) :
    ∃ e ∈ opcodeTable, e.matches (encode i) = true ∧ e.build (encode i) = i := by
  obtain ⟨e, hrow, hb⟩ := build_encode_of_row i
  have he : e ∈ opcodeTable := List.mem_of_getElem? hrow
  obtain ⟨hp, hf⟩ := pattern_fieldBits_build (encode i) e he
  rw [hb] at hp hf
  have hout : i.fieldBits &&& e.mask = 0 := by
    rw [hf, BitVec.and_assoc, BitVec.and_comm (~~~e.mask), BitVec.and_not_self]
    exact BitVec.and_zero
  refine ⟨e, he, TableRow.matches_iff.mpr ?_, hb⟩
  rw [encode, hp]
  exact Laws.EncodedRow.fits (pattern_and_mask e he) hout

/-! ### First match (R95, R98) -/

/-- An opcode decodes to i when the first matching row builds i from it. -/
theorem disassemble_eq_ok_iff {o : Word} {i : Instr} :
    disassemble o = .ok i ↔ ∃ e, firstMatch opcodeTable o = some e ∧ e.build o = i := by
  unfold disassemble
  cases firstMatch opcodeTable o <;> simp

theorem mem_and_matches_of_firstMatch {table : List TableRow} {o : Word} {e : TableRow}
    (h : firstMatch table o = some e) : e ∈ table ∧ e.matches o = true :=
  ⟨List.mem_of_find?_eq_some h, List.find?_some (p := fun r : TableRow => r.matches o) h⟩

/-- Two rows demand different values of a bit that both fix. -/
abbrev Clash (a b : TableRow) : Prop := b.pattern &&& a.mask ≠ a.pattern &&& b.mask

theorem Clash.matches_eq_false {a b : TableRow} {o : Word} (h : Clash a b) (ha : a.matches o = true) :
    b.matches o = false := by
  rw [Bool.eq_false_iff]
  intro hb
  apply h
  rw [← TableRow.matches_iff.mp ha, ← TableRow.matches_iff.mp hb, BitVec.and_assoc, BitVec.and_assoc,
    BitVec.and_comm a.mask]

/-- After the rows of CLS and RET every two rows clash (R98). -/
theorem rows_clash : (opcodeTable.drop 2).Pairwise Clash := by decide

/-- Where all rows clash, the first match is the only one. -/
theorem firstMatch_eq_of_clash {table : List TableRow} {e : TableRow} {o : Word} (hc : table.Pairwise Clash)
    (he : e ∈ table) (hm : e.matches o = true) : firstMatch table o = some e := by
  obtain ⟨as, bs, rfl⟩ := List.append_of_mem he
  have hbefore : ∀ a ∈ as, a.matches o = false := fun a ha =>
    Clash.matches_eq_false (Ne.symm ((List.pairwise_append.mp hc).2.2 a ha e List.mem_cons_self)) hm
  exact List.find?_eq_some_iff_append.mpr ⟨hm, as, bs, rfl, fun a ha => by simp [hbefore a ha]⟩

/-- CLS and RET apart, a row that matches an opcode is the first that does. -/
theorem firstMatch_eq_of_matches {e : TableRow} {o : Word} (hcls : o ≠ 0x00E0) (hret : o ≠ 0x00EE)
    (he : e ∈ opcodeTable) (hm : e.matches o = true) : firstMatch opcodeTable o = some e := by
  have hskip : ∀ a ∈ opcodeTable.take 2, ¬ a.matches o = true := by
    have hfull : o &&& 0xFFFF#16 = o := BitVec.and_allOnes
    simpa [opcodeTable, opcodeRows1, TableRow.matches, hfull] using And.intro hcls hret
  have hdrop : e ∈ opcodeTable.drop 2 := by
    rw [← List.take_append_drop 2 opcodeTable] at he
    exact (List.mem_append.mp he).resolve_left fun h => hskip e h hm
  rw [← List.take_append_drop 2 opcodeTable, firstMatch, List.find?_append, List.find?_eq_none.mpr hskip,
    Option.none_or]
  exact firstMatch_eq_of_clash rows_clash hdrop hm

/-! ### The two opcodes that SYS_ADDR shares with another row (R98) -/

/-- What the matching rows build from an opcode, in the table's order. -/
def builtFrom (o : Word) : List Instr := (opcodeTable.filter (·.matches o)).map (·.build o)

theorem mem_builtFrom_encode (i : Instr) : i ∈ builtFrom (encode i) := by
  obtain ⟨e, he, hm, hb⟩ := exists_row_matches_encode i
  exact List.mem_map.mpr ⟨e, List.mem_filter.mpr ⟨he, hm⟩, hb⟩

theorem builtFrom_cls : builtFrom 0x00E0 = [.cls, .sysAddr 0x0E0] := by decide

theorem builtFrom_ret : builtFrom 0x00EE = [.ret, .sysAddr 0x0EE] := by decide

theorem eq_cls_of_encode {i : Instr} (hwf : i.wf = true) (h : encode i = 0x00E0) : i = .cls := by
  have hi := mem_builtFrom_encode i
  rw [h, builtFrom_cls, List.mem_pair] at hi
  exact hi.resolve_right fun hs => absurd (hs ▸ hwf) (by decide)

theorem eq_ret_of_encode {i : Instr} (hwf : i.wf = true) (h : encode i = 0x00EE) : i = .ret := by
  have hi := mem_builtFrom_encode i
  rw [h, builtFrom_ret, List.mem_pair] at hi
  exact hi.resolve_right fun hs => absurd (hs ▸ hwf) (by decide)

/-- The only ill-formed terms are SYS_ADDR with the words of CLS and RET. -/
theorem eq_sysAddr_of_not_wf {i : Instr} (h : i.wf = false) : i = .sysAddr 0x0E0 ∨ i = .sysAddr 0x0EE := by
  cases i with
  | sysAddr nnn =>
    have h' : nnn ≠ 0x0E0 → nnn = 0x0EE := by simpa [Instr.wf, sysAddrAllowed] using h
    exact (or_iff_not_imp_left.mpr h').imp (congrArg _) (congrArg _)
  | _ => cases h

/-- An instruction that its own opcode decodes to is well-formed: the opcodes of the ill-formed terms decode to CLS and
RET. -/
theorem wf_of_disassemble_encode {i : Instr} (h : disassemble (encode i) = .ok i) : i.wf = true := by
  by_contra hwf
  rcases eq_sysAddr_of_not_wf (Bool.eq_false_iff.mpr hwf) with rfl | rfl <;> exact absurd h (by decide)

/-! ### The round trip -/

/-- Settles O1: the row of the instruction matches its opcode, and it is the first that does but for the opcodes of CLS
and RET, which are evaluated. -/
theorem decodeOfEncode : Obligations.DecodeOfEncode := by
  intro i hwf
  by_cases hcls : encode i = 0x00E0
  · rw [eq_cls_of_encode hwf hcls]
    rfl
  by_cases hret : encode i = 0x00EE
  · rw [eq_ret_of_encode hwf hret]
    rfl
  obtain ⟨e, he, hm, hb⟩ := exists_row_matches_encode i
  exact disassemble_eq_ok_iff.mpr ⟨e, firstMatch_eq_of_matches hcls hret he hm, hb⟩

/-- Settles O2: the first match is a row of the table that matches, whatever a matching row builds encodes to the
opcode, and an ill-formed term is never decoded from its own opcode. -/
theorem encodeOfDecode : Obligations.EncodeOfDecode := by
  intro o i h
  obtain ⟨e, hfirst, hb⟩ := disassemble_eq_ok_iff.mp h
  obtain ⟨he, hm⟩ := mem_and_matches_of_firstMatch hfirst
  have henc : encode i = o := hb ▸ encode_build he hm
  exact ⟨⟨e, he, hfirst, TableRow.matches_iff.mp hm, hb⟩, henc, wf_of_disassemble_encode (by rw [henc, h])⟩

end Sys2Proof.Encoding

/-! The cycle and the host's operations (40_cycle.md R140-R149). An instruction that is not refused either takes a
fault at its own PC, which halts the machine, or completes and leaves it running; from this one fact follows what a step
does to `halted`. -/

namespace Sys2Proof.Cycle

open Sys2Proof.Machine

/-! ### Taking a fault and halting: what they leave unchanged (R149; 60_exceptions.md R324) -/

theorem faulted_raise (info : FaultInfo) (s : State) : Faulted info s (s.raise info) := by
  refine ⟨rfl, rfl, fun p hp => ?_⟩
  cases p with
  | halted | outcome => exact absurd (by simp) hp
  | _ => rfl

@[simp] theorem halt_halted (s : State) : (halt s).halted = true := rfl

theorem frame_halt (s : State) : Frame (· = Part.halted) s (halt s) := by
  intro p hp
  cases p with
  | halted => exact absurd rfl hp
  | _ => rfl

/-! ### Fetch (R143) -/

theorem wordOfBytes_eq_append (hi lo : Byte) : wordOfBytes hi lo = hi ++ lo := by
  rw [wordOfBytes, BitVec.append_def, BitVec.shiftLeftZeroExtend_eq, BitVec.setWidth'_eq]

theorem wordOfBytes_toNat (hi lo : Byte) : (wordOfBytes hi lo).toNat = hi.toNat * 256 + lo.toNat := by
  rw [wordOfBytes_eq_append, BitVec.toNat_append, ← Nat.shiftLeft_add_eq_or_of_lt lo.isLt, Nat.shiftLeft_eq]

/-- The fetched word is the one whose number stands at PC. -/
theorem fetchWord_eq_of_toNat {s : State} {o : Word} (h : o.toNat = opcodeNat s) : s.fetchWord = o :=
  BitVec.eq_of_toNat_eq ((wordOfBytes_toNat _ _).trans h.symm)

theorem canFetch_iff {s : State} : s.canFetch = true ↔ s.pc.toNat ≤ 4094 := decide_eq_true_iff

theorem step_eq_decodeAndExecute {s : State} (hrun : s.halted = false) (hpc : s.pc.toNat ≤ 4094) :
    step s = decodeAndExecute s.fetchWord s := by
  simp [step, cycle, hrun, canFetch_iff.mpr hpc]

/-! ### How an instruction ends (R145, R147) -/

/-- The step reports Executed or Retry, and the machine runs if it ran. -/
def Completed (s t : State) : Prop :=
  t.halted = s.halted ∧ (t.outcome = some .executed ∨ t.outcome = some .retry)

theorem Completed.not_faulted {s t : State} (h : Completed s t) (info : FaultInfo) :
    t.outcome ≠ some (.faulted info) := by
  obtain ⟨-, ho | ho⟩ := h <;> simp [ho]

/-- A next state, if there is one, takes a fault at this PC with nothing done before it, or completes. -/
def FaultsOrCompletes (s : State) (o : Host.Outcome State Fault Refusal) : Prop :=
  ∀ t, o = .next t → (∃ info, info.pc = s.pc ∧ t = s.raise info) ∨ Completed s t

section
variable {s u : State}

theorem Completed.jump (h : u.halted = s.halted) (w : Word) : Completed s (u.jump w) := ⟨h, .inl rfl⟩

theorem Completed.next (h : u.halted = s.halted) : Completed s u.next := .jump h _

theorem Completed.skipIf (h : u.halted = s.halted) (c : Bool) : Completed s (u.skipIf c) := by
  rw [State.skipIf_eq]
  exact .jump h _

theorem Completed.retry (h : u.halted = s.halted) : Completed s u.retry := ⟨h, .inr rfl⟩

theorem FaultsOrCompletes.of_completed (h : Completed s u) : FaultsOrCompletes s (.next u) := by
  rintro _ ⟨⟩
  exact .inr h

theorem FaultsOrCompletes.of_raise {info : FaultInfo} (h : info.pc = s.pc) :
    FaultsOrCompletes s (.next (s.raise info)) := by
  rintro _ ⟨⟩
  exact .inl ⟨info, h, rfl⟩

theorem FaultsOrCompletes.ite {c : Prop} [Decidable c] {a b : Host.Outcome State Fault Refusal}
    (ha : FaultsOrCompletes s a) (hb : FaultsOrCompletes s b) : FaultsOrCompletes s (if c then a else b) := by
  split <;> assumption

theorem FaultsOrCompletes.endFlagWrite (h : u.halted = s.halted) (x : Reg) :
    FaultsOrCompletes s (endFlagWrite s x u) := by
  intro t ht
  rw [endFlagWrite_next ht]
  exact .inr (.next h)

end

/-! The parts of an instruction's work that are more than one update: none of them halts. -/

@[simp] theorem push_halted (s : State) (w : Word) : (s.push w).halted = s.halted := by
  unfold State.push
  split <;> rfl

@[simp] theorem loadBlock_halted (s : State) (n : Nat) : (loadBlock s n).halted = s.halted := by rw [loadBlock_eq]

@[simp] theorem drawPixels_halted (s : State) (ps : List SpritePixel) : (s.drawPixels ps).halted = s.halted := by
  rw [State.drawPixels_eq]

@[simp] theorem afterKeyTest_halted (s : State) (k : Byte) : (afterKeyTest s k).halted = s.halted := by
  unfold afterKeyTest
  split
  · rfl
  · split <;> rfl

theorem completed_endKeyWait {s u : State} (h : u.halted = s.halted) (x : Reg) (key : Option (Fin 16)) :
    Completed s (endKeyWait x key u) := by
  cases key with
  | none => exact .retry h
  | some k => exact .next h

/-- Every instruction faults or completes (R145): the faults are those of SYS_ADDR, of the stack, of the font and of
the I-relative bound. -/
theorem exec_faultsOrCompletes (i : Instr) (s : State) : FaultsOrCompletes s (exec i s) := by
  cases i with
  | cls | ldVxNn | addVxNn | ldVxVy | orVxVy | andVxVy | xorVxVy | ldIAddr | rndVxNn | ldVxDt | ldDtVx | addIVx =>
    exact .of_completed (.next rfl)
  | jpAddr | jpV0Addr => exact .of_completed (.jump rfl _)
  | seVxNn | sneVxNn | seVxVy | sneVxVy => exact .of_completed (.skipIf rfl _)
  | skpVx | sknpVx => exact .of_completed (.skipIf (afterKeyTest_halted _ _) _)
  | addVxVy | subVxVy | subnVxVy | shrVxVy | shlVxVy =>
    apply FaultsOrCompletes.endFlagWrite
    rfl
  | ldVxN x => exact .of_completed (completed_endKeyWait rfl x _)
  | ldStVx => exact .ite (.of_completed (.next rfl)) (.of_completed (.next rfl))
  | sysAddr nnn =>
    change FaultsOrCompletes s (execSysAddr nnn s)
    unfold execSysAddr
    cases s.cfg.sysPolicy with
    | fatal => exact .of_raise rfl
    | nop => exact .of_completed (.next rfl)
  | ret => exact .ite (.of_raise rfl) (.of_completed (.jump rfl _))
  | callAddr => exact .ite (.of_raise rfl) (.of_completed (.jump (push_halted _ _) _))
  | ldFVx => exact .ite (.of_raise rfl) (.of_completed (.next rfl))
  | ldBVx | ldIVx => exact .ite (.of_completed (.next (State.writeBytes_halted _ _ _))) (.of_raise rfl)
  | ldVxI => exact .ite (.of_completed (.next (loadBlock_halted _ _))) (.of_raise rfl)
  | drwVxVyN => exact .ite (.of_completed (.next (drawPixels_halted _ _))) (.of_raise rfl)

/-- So does a step of a running machine: a fetch or a decode that fails takes its fault. -/
theorem step_faultsOrCompletes {s : State} (hrun : s.halted = false) : FaultsOrCompletes s (step s) := by
  obtain ⟨hhalt, -⟩ | ⟨-, -, hstep⟩ | ⟨-, -, -, hstep⟩ | ⟨-, -, i, -, hstep⟩ := step_cases s
  · simp [hrun] at hhalt
  · exact hstep ▸ .of_raise rfl
  · exact hstep ▸ .of_raise rfl
  · exact hstep ▸ exec_faultsOrCompletes i s

/-! ### The machine after an operation (R140) -/

theorem step_of_halted {s : State} (h : s.halted = true) : step s = .fault .alreadyHalted := if_pos h

theorem after_step_of_halted {s : State} (h : s.halted = true) : after .step s = s := by
  simp [after, perform, step_of_halted h]

/-- A running machine's step takes a fault, completes, or is refused and changes nothing. -/
theorem after_step_cases {s : State} (hrun : s.halted = false) :
    (∃ info, after .step s = s.raise info) ∨ Completed s (after .step s) ∨ after .step s = s := by
  unfold after perform
  cases hstep : step s with
  | next t => exact (step_faultsOrCompletes hrun t hstep).imp (fun ⟨info, _, h⟩ => ⟨info, h⟩) .inl
  | fault | refused => exact .inr (.inr rfl)

@[simp] theorem tick_halted (s : State) : (tick s).halted = s.halted := by
  obtain ⟨-, -, h⟩ | ⟨-, h⟩ := tick_cases s <;> rw [h]

theorem after_load_of_fits {rom : List Byte} (h : rom.length ≤ 3584) (s : State) :
    after (.load rom) s = loadState rom s := by
  simp [after, perform, load, Config.romMax, Nat.not_lt.mpr h]

theorem after_load_of_tooLong {rom : List Byte} (h : 3584 < rom.length) (s : State) : after (.load rom) s = s := by
  simp [after, perform, load, Config.romMax, h]

@[simp] theorem loadState_halted (rom : List Byte) (s : State) : (loadState rom s).halted = false :=
  State.writeBytes_halted _ _ _

/-- A running machine's step halts it exactly when it leaves a fault on record; an old record cannot do so, since it
would have halted the machine before. -/
theorem after_step_halted_iff {s : State} (hrec : FaultHalts s) (hrun : s.halted = false) :
    (after .step s).halted = true ↔ ∃ info, (after .step s).outcome = some (.faulted info) := by
  obtain ⟨info, h⟩ | h | h := after_step_cases hrun
  · simp [h]
  · simp [h.1, hrun, h.not_faulted]
  · have hnone : ∀ info, s.outcome ≠ some (.faulted info) := fun info ho => by simpa [hrun] using hrec info ho
    simp [h, hrun, hnone]

/-! ### The obligations -/

/-- Settles O50: each operation's effect on `halted` is its own lemma; that a step halts only by a fault is the case
analysis of `exec_faultsOrCompletes`. -/
theorem haltedChangesOnlyByTheseOperations : Obligations.HaltedChangesOnlyByTheseOperations := by
  refine ⟨rfl, fun s => ⟨fun rom => ⟨fun hfits => ?_, fun hlong => after_load_of_tooLong hlong s⟩, halt_halted s,
    tick_halted s, fun h => ?_, after_step_halted_iff⟩⟩
  · rw [after_load_of_fits hfits, loadState_halted]
  · rw [after_step_of_halted h, h]

/-- Settles O9: the check for `halted` is the cycle's first. -/
theorem stepWhileHaltedChangesNothing : Obligations.StepWhileHaltedChangesNothing :=
  fun _ h => ⟨step_of_halted h, after_step_of_halted h⟩

/-- Settles O12: the fetched word is the opcode at PC, so decoding it fails and raises. -/
theorem stepFaultsOnIllegalOpcode : Obligations.StepFaultsOnIllegalOpcode := by
  intro s o hrun hpc ho hdis
  refine ⟨_, ?_, faulted_raise _ s⟩
  rw [step_eq_decodeAndExecute hrun hpc, fetchWord_eq_of_toNat ho, decodeAndExecute, hdis]

/-- Settles O49: a halt sets one flag to true, and a halted machine's step is AlreadyHalted. -/
theorem haltIsIdempotent : Obligations.HaltIsIdempotent :=
  fun s => ⟨halt_halted s, frame_halt s, rfl, step_of_halted (halt_halted s)⟩

end Sys2Proof.Cycle

/-! Control transfer (41_flow.md). A jump changes PC and the reported outcome only; where it goes is checked by the next
fetch, not by the jump (10_state.md R34; 40_cycle.md R143). -/

namespace Sys2Proof.Flow

open Sys2Proof.Machine Sys2Proof.Cycle

/-- A 12-bit address keeps its number as a PC. -/
@[simp] theorem addrWord_toNat (nnn : Addr) : (addrWord nnn).toNat = nnn.toNat :=
  BitVec.toNat_setWidth_of_le (by decide)

theorem frame_jump (s : State) (w : Word) : Frame (· ∈ [Part.pc, .outcome]) s (s.jump w) := by
  intro p hp
  cases p with
  | pc | outcome => exact absurd (by simp) hp
  | _ => rfl

theorem exec_jpAddr (nnn : Addr) (s : State) : exec (.jpAddr nnn) s = .next (s.jump (addrWord nnn)) := rfl

/-- A running machine whose PC is past the fetch limit takes the fetch fault (R143). -/
theorem step_eq_raise_of_pc_past_limit {s : State} (hrun : s.halted = false) (hpc : 4094 < s.pc.toNat) :
    step s = .next (s.raise (.memoryOutOfBounds s.pc s.pc)) := by
  have hfetch : ¬ s.canFetch = true := fun h => absurd (canFetch_iff.mp h) (Nat.not_le.mpr hpc)
  simp [step, cycle, hrun, hfetch]

/-- Settles O18: the instruction is one jump, and the jump's target 0xFFF is past the fetch limit. -/
theorem jpAddrSetsPc : Obligations.JpAddrSetsPc := by
  intro nnn s
  refine ⟨_, exec_jpAddr nnn s, addrWord_toNat nnn, rfl, frame_jump s _, ?_⟩
  rintro rfl hrun
  exact ⟨_, step_eq_raise_of_pc_past_limit hrun (by simp), faulted_raise _ _⟩

end Sys2Proof.Flow

/-! Register loads and the immediate addition (42_alu.md R200-R202). Each is one write to the destination register
followed by the step to the next instruction; no flag is written, so VF changes only as the destination. -/

namespace Sys2Proof.Alu

open Sys2Proof.Machine

theorem exec_ldVxNn (x : Reg) (nn : Byte) (s : State) : exec (.ldVxNn x nn) s = .next (s.setV x nn).next := rfl

theorem exec_ldVxVy (x y : Reg) (s : State) : exec (.ldVxVy x y) s = .next (s.setV x (s.getV y)).next := rfl

theorem exec_addVxNn (x : Reg) (nn : Byte) (s : State) :
    exec (.addVxNn x nn) s = .next (s.setV x (s.getV x + nn)).next := rfl

/-! ### A register write that ends the instruction -/

theorem getV_setV_next (s : State) (x : Reg) (b : Byte) : (s.setV x b).next.getV x = b := by
  rw [State.next_getV, State.getV_setV_same]

theorem advanced_setV_next (s : State) (x : Reg) (b : Byte) : Advanced 2 s (s.setV x b).next := ⟨rfl, rfl⟩

theorem frame_setV_next (s : State) (x : Reg) (b : Byte) :
    Frame (· ∈ [Part.v x, .pc, .outcome]) s (s.setV x b).next := by
  intro p hp
  cases p with
  | v r =>
    have hr : r ≠ x := fun h => hp (by simp [h])
    exact State.getV_setV_other s hr b
  | pc | outcome => exact absurd (by simp) hp
  | _ => rfl

/-! ### The obligations -/

/-- Settles O23: both loads are a register write that ends the instruction, whichever register is the destination. -/
theorem registerLoadsSetDestination : Obligations.RegisterLoadsSetDestination := fun x y nn s =>
  ⟨⟨_, exec_ldVxNn x nn s, getV_setV_next s x _, advanced_setV_next s x _, frame_setV_next s x _⟩,
    ⟨_, exec_ldVxVy x y s, getV_setV_next s x _, advanced_setV_next s x _, frame_setV_next s x _⟩⟩

/-- Settles O24: the byte written is the sum of two bytes, which is the exact sum modulo 256. -/
theorem addImmediateWrapsWithoutFlag : Obligations.AddImmediateWrapsWithoutFlag := by
  intro x nn s
  refine ⟨_, exec_addVxNn x nn s, ?_, advanced_setV_next s x _, frame_setV_next s x _⟩
  rw [getV_setV_next, BitVec.toNat_add]

end Sys2Proof.Alu

/-! The index register (43_index_memory.md R240-R242). What completes is one write to I followed by the step to the next
instruction; the font lookup checks its digit before that write, so its fault finds nothing to undo. -/

namespace Sys2Proof.IndexMemory

open Sys2Proof.Machine Sys2Proof.Cycle Sys2Proof.Flow

theorem exec_ldIAddr (nnn : Addr) (s : State) : exec (.ldIAddr nnn) s = .next (s.setI (addrWord nnn)).next := rfl

theorem exec_ldFVx_of_digit {x : Reg} {s : State} (h : (s.getV x).toNat ≤ 15) :
    exec (.ldFVx x) s = .next (s.setI (glyphAddress (s.getV x))).next := if_neg (Nat.not_lt.mpr h)

theorem exec_ldFVx_of_not_digit {x : Reg} {s : State} (h : 15 < (s.getV x).toNat) :
    exec (.ldFVx x) s = .next (s.raise (.invalidDigit (s.getV x) s.pc)) := if_pos h

/-- Five times a byte fits in I, so the address does not wrap. -/
theorem glyphAddress_toNat (b : Byte) : (glyphAddress b).toNat = b.toNat * 5 := by
  have hfits : b.toNat * 5 < 2 ^ 16 := by
    have := b.isLt
    omega
  rw [glyphAddress, BitVec.toNat_ofNat, Nat.mod_eq_of_lt hfits]

/-! ### A write to I that ends the instruction -/

theorem advanced_setI_next (s : State) (w : Word) : Advanced 2 s (s.setI w).next := ⟨rfl, rfl⟩

theorem frame_setI_next (s : State) (w : Word) : Frame (· ∈ [Part.i, .pc, .outcome]) s (s.setI w).next := by
  intro p hp
  cases p with
  | i | pc | outcome => exact absurd (by simp) hp
  | _ => rfl

/-! ### The obligations -/

/-- Settles O31: the instruction is a write of nnn to I, and a 12-bit address keeps its number as a word. -/
theorem ldIAddrSetsIndex : Obligations.LdIAddrSetsIndex := fun nnn s =>
  ⟨_, exec_ldIAddr nnn s, addrWord_toNat nnn, advanced_setI_next s _, frame_setI_next s _⟩

/-- Settles O33: a digit makes the instruction a write of its glyph's address to I, any other value makes it a fault. -/
theorem ldFPointsAtGlyph : Obligations.LdFPointsAtGlyph := fun _ s =>
  ⟨fun hdigit => ⟨_, exec_ldFVx_of_digit hdigit, glyphAddress_toNat _, advanced_setI_next s _, frame_setI_next s _⟩,
    fun hbad => ⟨_, exec_ldFVx_of_not_digit hbad, faulted_raise _ s⟩⟩

end Sys2Proof.IndexMemory

/-! The display (44_peripheral.md R271-R280). A pixel is one bit of the framebuffer, and the index of a pixel whose column
is inside the width gives back its row and column, so a call on one pixel leaves every other pixel alone. -/

namespace Sys2Proof.Peripheral

open Sys2Proof.Machine

/-! ### Pixels -/

/-- The column is the index's remainder by the width, and the row its quotient. -/
theorem pixelIndex_inj {s : State} {x y x' y' : Nat} (hx : x < s.cfg.displayW) (hx' : x' < s.cfg.displayW) :
    s.pixelIndex x y = s.pixelIndex x' y' ↔ x = x' ∧ y = y' := by
  constructor
  · intro h
    simp only [State.pixelIndex] at h
    have hcol : x = x' := by simpa [Nat.mul_add_mod', Nat.mod_eq_of_lt, hx, hx'] using congrArg (· % s.cfg.displayW) h
    subst hcol
    exact ⟨rfl, Nat.eq_of_mul_eq_mul_right (Nat.zero_lt_of_lt hx) (Nat.add_right_cancel h)⟩
  · rintro ⟨rfl, rfl⟩
    rfl

theorem pixel_drawPixel_same (s : State) (x y : Nat) (b : Bool) :
    (s.drawPixel x y b).pixel x y = (s.pixel x y ^^ b) := by
  simp [State.pixel_drawPixel]

theorem pixel_drawPixel_other {s : State} {x y x' y' : Nat} (b : Bool) (hx : x < s.cfg.displayW)
    (hx' : x' < s.cfg.displayW) (hne : (x', y') ≠ (x, y)) : (s.drawPixel x y b).pixel x' y' = s.pixel x' y' := by
  have hindex : s.pixelIndex x y ≠ s.pixelIndex x' y' := by
    rw [Ne, pixelIndex_inj hx hx']
    rintro ⟨rfl, rfl⟩
    exact hne rfl
  simp [State.pixel_drawPixel, hindex]

@[simp] theorem pixel_clearDisplay (s : State) (x y : Nat) : s.clearDisplay.pixel x y = false := by
  rw [State.pixel, State.clearDisplay_display, Nat.zero_testBit]

@[simp] theorem pixel_next (s : State) (x y : Nat) : s.next.pixel x y = s.pixel x y := rfl

/-! ### CLS -/

theorem exec_cls (s : State) : exec .cls s = .next s.clearDisplay.next := rfl

theorem advanced_clearDisplay_next (s : State) : Advanced 2 s s.clearDisplay.next := ⟨rfl, rfl⟩

theorem frame_clearDisplay_next (s : State) :
    Frame (· ∈ [Part.pc, .outcome, .display, .calls]) s s.clearDisplay.next := by
  intro p hp
  cases p with
  | pc | outcome | display | calls => exact absurd (by simp) hp
  | _ => rfl

/-! ### The obligations -/

/-- Settles O38: a call XORs the bit at its pixel's index, which no other pixel inside the width shares. -/
theorem drawPixelXorsOnePixel : Obligations.DrawPixelXorsOnePixel := fun s x y value hx =>
  ⟨pixel_drawPixel_same s x y value, rfl, fun _ _ hx' hne => pixel_drawPixel_other value hx hx' hne⟩

/-- Settles O39: the instruction is one `clearDisplay` call followed by the step to the next instruction. -/
theorem clsClearsDisplay : Obligations.ClsClearsDisplay := fun s =>
  ⟨_, exec_cls s, advanced_clearDisplay_next s, rfl, fun x y => (pixel_next _ x y).trans (pixel_clearDisplay s x y),
    frame_clearDisplay_next s⟩

end Sys2Proof.Peripheral

/-! The delay timer (45_timers.md R300-R301). Reading it is a register write and writing it is one write to DT, each
followed by the step to the next instruction. -/

namespace Sys2Proof.Timers

open Sys2Proof.Machine Sys2Proof.Alu

theorem exec_ldVxDt (x : Reg) (s : State) : exec (.ldVxDt x) s = .next (s.setV x s.dt).next := rfl

theorem exec_ldDtVx (x : Reg) (s : State) : exec (.ldDtVx x) s = .next (s.setDt (s.getV x)).next := rfl

/-! ### A write to DT that ends the instruction -/

theorem dt_setDt_next (s : State) (b : Byte) : (s.setDt b).next.dt = b := rfl

theorem advanced_setDt_next (s : State) (b : Byte) : Advanced 2 s (s.setDt b).next := ⟨rfl, rfl⟩

theorem frame_setDt_next (s : State) (b : Byte) : Frame (· ∈ [Part.dt, .pc, .outcome]) s (s.setDt b).next := by
  intro p hp
  cases p with
  | dt | pc | outcome => exact absurd (by simp) hp
  | _ => rfl

/-! ### The obligations -/

/-- Settles O44: the read is a register write of DT, whose frame keeps DT and the calls; the write is its counterpart
on DT. -/
theorem delayTimerReadAndWrite : Obligations.DelayTimerReadAndWrite := fun x s =>
  ⟨⟨_, exec_ldVxDt x s, getV_setV_next s x _, advanced_setV_next s x _, frame_setV_next s x _⟩,
    ⟨_, exec_ldDtVx x s, dt_setDt_next s _, advanced_setDt_next s _, frame_setDt_next s _⟩⟩

end Sys2Proof.Timers

/-! The inversion of exec. What an instruction does to the state (`Effect`) is kept apart from how it ends (`Ends`), and
`exec_cases` says once that a next state is a fault at this PC with nothing done before it, or an effect and an ending. The
rules of the whole machine and the invariants then go by the few effects instead of by the 35 instructions. -/

namespace Sys2Proof.Effects

open Sys2Proof.Machine Sys2Proof.Cycle

/-- What an instruction does before it moves PC and reports its outcome. -/
inductive Effect (s : State) : Instr → State → Prop
  | unchanged (i : Instr) : Effect s i s
  | popped : Effect s .ret s.dropTop
  | pushed (nnn : Addr) (h : s.depth.val < 16) : Effect s (.callAddr nnn) (s.push (s.pc + 2))
  | register (i : Instr) (x : Reg) (b : Byte) (hx : isDestination x i) : Effect s i (s.setV x b)
  | resultThenFlag (i : Instr) (x : Reg) (b f : Byte) (hx : isDestination x i) (hf : writesFlag i) :
      Effect s i (writeResultThenFlag s x b f)
  | flagThenShift (i : Instr) (x : Reg) (f : Byte) (g : Byte → Byte) (hx : isDestination x i) (hf : writesFlag i) :
      Effect s i (writeFlagThenShift s x f g)
  | random (x : Reg) (nn b : Byte) : Effect s (.rndVxNn x nn) (s.takeRandomByte.setV x b)
  | loaded (x : Reg) : Effect s (.ldVxI x) (loadBlock s (x.val + 1))
  | stored (i : Instr) (bs : List Byte) (hfits : s.i.toNat + bs.length ≤ 4096)
      (hi : ∃ x, i = .ldBVx x ∧ bs.length = 3 ∨ i = .ldIVx x ∧ bs.length = x.val + 1) :
      Effect s i (s.writeBytes s.i.toNat bs)
  | index (i : Instr) (w : Word) : Effect s i (s.setI w)
  | delay (x : Reg) (b : Byte) : Effect s (.ldDtVx x) (s.setDt b)
  | mute (x : Reg) : Effect s (.ldStVx x) (s.setSt 0)
  | sounding (x : Reg) (b : Byte) : Effect s (.ldStVx x) ((s.setSt b).setSoundEnabled true).enableSound
  | cleared : Effect s .cls s.clearDisplay
  | drawn (x y : Reg) (n : Nibble) (x0 y0 : Nat) (f : Byte) :
      Effect s (.drwVxVyN x y n) ((s.drawPixels (spritePixels s x0 y0 n.toNat)).setV Reg.vf f)
  | keysTested (i : Instr) (k : Byte) (hi : ∃ x, i = .skpVx x ∨ i = .sknpVx x) : Effect s i (afterKeyTest s k)
  | noKey (x : Reg) : Effect s (.ldVxN x) s.waitKey
  | keyTaken (x : Reg) (b : Byte) : Effect s (.ldVxN x) (s.waitKey.setV x b)

/-- How an instruction that takes no fault ends, after its effect has led from s to u (40_cycle.md R145). -/
inductive Ends (i : Instr) (s u : State) : State → Prop
  | next : Ends i s u (u.jump (s.pc + 2))
  | skip : Ends i s u (u.jump (s.pc + 4))
  | address (nnn : Addr) (hi : i = .jpAddr nnn ∨ i = .callAddr nnn) : Ends i s u (u.jump (addrWord nnn))
  | popped (hi : i = .ret) : Ends i s u (u.jump s.top)
  | indexed (nnn : Addr) (hi : i = .jpV0Addr nnn) : Ends i s u (u.jump (jumpV0Target s nnn))
  | retry (x : Reg) (hi : i = .ldVxN x) : Ends i s u u.retry

/-- An ending touches PC and the outcome only. -/
theorem Ends.eq {i : Instr} {s u t : State} (h : Ends i s u t) : t = { u with pc := t.pc, outcome := t.outcome } := by
  cases h <;> rfl

theorem Ends.getV_eq {i : Instr} {s u t : State} (h : Ends i s u t) (r : Reg) : t.getV r = u.getV r := by rw [h.eq]; rfl

theorem Ends.readMem_eq {i : Instr} {s u t : State} (h : Ends i s u t) (a : Nat) : t.readMem a = u.readMem a := by
  rw [h.eq]
  rfl

theorem Ends.calls_eq {i : Instr} {s u t : State} (h : Ends i s u t) : t.calls = u.calls := by rw [h.eq]

theorem Ends.cfg_eq {i : Instr} {s u t : State} (h : Ends i s u t) : t.cfg = u.cfg := by rw [h.eq]

/-- Every next state of an answer comes from a fault at this PC, or from an effect of i and an ending of i. -/
def Does (i : Instr) (s : State) (o : Host.Outcome State Fault Refusal) : Prop :=
  ∀ t, o = .next t → (∃ info : FaultInfo, info.pc = s.pc ∧ t = s.raise info) ∨ ∃ u, Effect s i u ∧ Ends i s u t

section
variable {i : Instr} {s u : State}

theorem Does.of_raise {info : FaultInfo} (h : info.pc = s.pc) : Does i s (.next (s.raise info)) := by
  rintro _ ⟨⟩
  exact .inl ⟨info, h, rfl⟩

theorem Does.of_ends {t : State} (hu : Effect s i u) (ht : Ends i s u t) : Does i s (.next t) := by
  rintro _ ⟨⟩
  exact .inr ⟨u, hu, ht⟩

theorem Does.of_next (hu : Effect s i u) (hpc : u.pc = s.pc) : Does i s (.next u.next) :=
  .of_ends hu (by rw [State.next, hpc]; exact .next)

theorem Does.of_skipIf (hu : Effect s i u) (hpc : u.pc = s.pc) (c : Bool) : Does i s (.next (u.skipIf c)) := by
  refine .of_ends hu ?_
  rw [State.skipIf_eq, hpc]
  cases c
  · exact .next
  · exact .skip

theorem Does.ite {c : Prop} [Decidable c] {a b : Host.Outcome State Fault Refusal} (ha : c → Does i s a)
    (hb : ¬ c → Does i s b) : Does i s (if c then a else b) := by
  split
  next h => exact ha h
  next h => exact hb h

theorem Does.endFlagWrite {x : Reg} (hu : Effect s i u) (hpc : u.pc = s.pc) : Does i s (endFlagWrite s x u) :=
  fun t ht => Does.of_next hu hpc t (congrArg _ (endFlagWrite_next ht).symm)

end

/-! Operations that are more than one update, as the fields they change. -/

/-- The key test changes the inputs and makes one call. -/
theorem afterKeyTest_eq (s : State) (k : Byte) :
    afterKeyTest s k = { s with inputs := (afterKeyTest s k).inputs, calls := .getKeys :: s.calls } := by
  unfold afterKeyTest
  split
  · rfl
  · split <;> rfl

theorem afterKeyTest_pc (s : State) (k : Byte) : (afterKeyTest s k).pc = s.pc := by rw [afterKeyTest_eq]

theorem loadBlock_pc (s : State) (n : Nat) : (loadBlock s n).pc = s.pc := by rw [loadBlock_eq]

theorem drawPixels_pc (s : State) (ps : List SpritePixel) : (s.drawPixels ps).pc = s.pc := by rw [State.drawPixels_eq]

theorem does_endKeyWait (x : Reg) (s : State) : Does (.ldVxN x) s (.next (endKeyWait x s.keyPress s.waitKey)) := by
  cases s.keyPress with
  | none => exact .of_ends (.noKey x) (.retry x rfl)
  | some k => exact .of_next (.keyTaken x _) rfl

theorem does_drw (x y : Reg) (n : Nibble) (s : State) : Does (.drwVxVyN x y n) s (exec (.drwVxVyN x y n) s) :=
  .ite (fun _ => .of_next (.drawn x y n _ _ _) (drawPixels_pc s _)) fun _ => .of_raise rfl

theorem does_sysAddr (nnn : Addr) (s : State) : Does (.sysAddr nnn) s (execSysAddr nnn s) := by
  unfold execSysAddr
  cases s.cfg.sysPolicy with
  | fatal => exact .of_raise rfl
  | nop => exact .of_next (.unchanged _) rfl

theorem exec_does (i : Instr) (s : State) : Does i s (exec i s) := by
  cases i with
  | cls => exact .of_next .cleared rfl
  | ret => exact .ite (fun _ => .of_raise rfl) fun _ => .of_ends .popped (.popped rfl)
  | sysAddr nnn => exact does_sysAddr nnn s
  | jpAddr nnn => exact .of_ends (.unchanged _) (.address nnn (.inl rfl))
  | callAddr nnn =>
    exact .ite (fun _ => .of_raise rfl) fun h => .of_ends (.pushed nnn (by omega)) (.address nnn (.inr rfl))
  | seVxNn | sneVxNn | seVxVy | sneVxVy => exact .of_skipIf (.unchanged _) rfl _
  | ldVxNn | addVxNn | ldVxVy | orVxVy | andVxVy | xorVxVy | ldVxDt => exact .of_next (.register _ _ _ rfl) rfl
  | addVxVy x y | subVxVy x y | subnVxVy x y =>
    exact .endFlagWrite (.resultThenFlag _ x _ _ rfl ⟨x, y, by simp⟩) rfl
  | shrVxVy x y | shlVxVy x y => exact .endFlagWrite (.flagThenShift _ x _ _ rfl ⟨x, y, by simp⟩) rfl
  | ldIAddr | addIVx => exact .of_next (.index _ _) rfl
  | jpV0Addr nnn => exact .of_ends (.unchanged _) (.indexed nnn rfl)
  | rndVxNn x nn => exact .of_next (.random x nn _) rfl
  | drwVxVyN x y n => exact does_drw x y n s
  | skpVx x => exact .of_skipIf (.keysTested _ _ ⟨x, .inl rfl⟩) (afterKeyTest_pc s _) _
  | sknpVx x => exact .of_skipIf (.keysTested _ _ ⟨x, .inr rfl⟩) (afterKeyTest_pc s _) _
  | ldVxN x => exact does_endKeyWait x s
  | ldDtVx x => exact .of_next (.delay x _) rfl
  | ldStVx x =>
    refine .ite (fun _ => .of_next (.sounding x _) rfl) fun h => ?_
    rw [show s.getV x = 0 from BitVec.eq_of_toNat_eq (Nat.eq_zero_of_not_pos h)]
    exact .of_next (.mute x) rfl
  | ldFVx => exact .ite (fun _ => .of_raise rfl) fun _ => .of_next (.index _ _) rfl
  | ldBVx x =>
    refine .ite (fun h => .of_next (.stored _ _ ?_ ⟨x, .inl ⟨rfl, rfl⟩⟩) (State.writeBytes_pc s _ _)) fun _ =>
      .of_raise rfl
    exact Nat.succ_le_succ (of_decide_eq_true h)
  | ldIVx x =>
    refine .ite (fun h => .of_next (.stored _ _ ?_ ⟨x, .inr ⟨rfl, registerBlock_length s x⟩⟩)
      (State.writeBytes_pc s _ _)) fun _ => .of_raise rfl
    rw [registerBlock_length]
    exact Nat.succ_le_succ (of_decide_eq_true h)
  | ldVxI x => exact .ite (fun _ => .of_next (.loaded x) (loadBlock_pc s _)) fun _ => .of_raise rfl

/-- The inversion: what exec can have done when it answers a next state. -/
theorem exec_cases {i : Instr} {s t : State} (h : exec i s = .next t) :
    (∃ info : FaultInfo, info.pc = s.pc ∧ t = s.raise info) ∨ ∃ u, Effect s i u ∧ Ends i s u t := exec_does i s t h

/-- The same for a step: a fault, or the effect and the ending of an instruction that was fetched. -/
theorem step_next_cases {s t : State} (h : step s = .next t) : (∃ info, t = s.raise info) ∨
    ∃ i u, s.pc.toNat ≤ 4094 ∧ Effect s i u ∧ Ends i s u t := by
  obtain ⟨-, hstep⟩ | ⟨-, -, hstep⟩ | ⟨-, -, -, hstep⟩ | ⟨-, hfetch, i, -, hstep⟩ := step_cases s <;> rw [hstep] at h
  · cases h
  · exact .inl ⟨_, (Host.Outcome.next.inj h).symm⟩
  · exact .inl ⟨_, (Host.Outcome.next.inj h).symm⟩
  · exact (exec_cases h).imp (fun ⟨info, _, ht⟩ => ⟨info, ht⟩) fun ⟨u, hu, ht⟩ =>
      ⟨i, u, canFetch_iff.mp hfetch, hu, ht⟩

/-! The machine after a step or a load that may have been turned down. -/

theorem after_step_eq_or (s : State) : after .step s = s ∨ step s = .next (after .step s) := by
  unfold after perform
  cases step s with
  | next t => exact .inr rfl
  | fault | refused => exact .inl rfl

theorem after_load_eq_or (rom : List Byte) (s : State) :
    after (.load rom) s = s ∨ after (.load rom) s = loadState rom s :=
  (Nat.lt_or_ge 3584 rom.length).imp (after_load_of_tooLong · s) (after_load_of_fits · s)

/-! ### What the effects leave unchanged -/

section
variable {s u : State} {i : Instr}

theorem Effect.cfg_eq (h : Effect s i u) : u.cfg = s.cfg := by
  cases h with
  | pushed _ h => rw [State.push_eq s _ h]
  | loaded => rw [loadBlock_eq]
  | stored => exact State.writeBytes_cfg s _ _
  | drawn => rw [State.setV_cfg, State.drawPixels_eq]
  | keysTested => rw [afterKeyTest_eq]
  | _ => rfl

/-- A byte of memory changes only in the range of a block store. -/
theorem Effect.readMem_eq_or_stored (h : Effect s i u) (a : Nat) : u.readMem a = s.readMem a ∨
    s.i.toNat ≤ a ∧ a ≤ 4095 ∧ ∃ x : Reg, i = .ldBVx x ∧ a ≤ s.i.toNat + 2 ∨ i = .ldIVx x ∧ a ≤ s.i.toNat + x.val := by
  cases h with
  | pushed _ h => rw [State.push_eq s _ h]; exact .inl rfl
  | loaded => rw [loadBlock_eq]; exact .inl rfl
  | drawn => rw [State.setV_readMem, State.drawPixels_eq]; exact .inl rfl
  | keysTested => rw [afterKeyTest_eq]; exact .inl rfl
  | stored _ bs hfits hi =>
    by_cases hout : a < s.i.toNat ∨ s.i.toNat + bs.length ≤ a
    · exact .inl (State.readMem_writeBytes_other s _ a bs hout)
    · obtain ⟨x, ⟨hi, hlen⟩ | ⟨hi, hlen⟩⟩ := hi
      · exact .inr ⟨by omega, by omega, x, .inl ⟨hi, by omega⟩⟩
      · exact .inr ⟨by omega, by omega, x, .inr ⟨hi, by omega⟩⟩
  | _ => exact .inl rfl

theorem Effect.memCanonical (h : Effect s i u) (hm : MemCanonical s) : MemCanonical u := by
  cases h with
  | pushed _ h => rw [State.push_eq s _ h]; exact hm
  | loaded => rw [loadBlock_eq]; exact hm
  | stored => exact State.writeBytes_canonical s _ _ hm
  | drawn => rw [State.drawPixels_eq]; exact hm
  | keysTested => rw [afterKeyTest_eq]; exact hm
  | _ => exact hm

theorem Effect.soundLatched (h : Effect s i u) (hs : SoundLatched s) : SoundLatched u := by
  cases h with
  | pushed _ h => rw [State.push_eq s _ h]; exact hs
  | loaded => rw [loadBlock_eq]; exact hs
  | stored => rw [State.writeBytes_eq]; exact hs
  | drawn => rw [State.drawPixels_eq]; exact hs
  | keysTested => rw [afterKeyTest_eq]; exact hs
  | mute => exact ⟨fun h => absurd rfl h, hs.2⟩
  | sounding => exact ⟨fun _ => rfl, rfl⟩
  | _ => exact hs

/-- What CALL pushes is the address after an opcode that was fetched. -/
theorem Effect.stack_le (h : Effect s i u) (hpc : s.pc.toNat ≤ 4094) (hs : ∀ k : Fin 16, (s.stack[k]).toNat ≤ 4096) :
    ∀ k : Fin 16, (u.stack[k]).toNat ≤ 4096 := by
  cases h with
  | pushed _ h =>
    intro k
    have hpush : (s.pc + 2).toNat ≤ 4096 := by bv_omega
    rw [State.push_eq s _ h, Fin.getElem_fin, Vector.getElem_set]
    split
    · exact hpush
    · exact hs k
  | loaded => rw [loadBlock_eq]; exact hs
  | stored => rw [State.writeBytes_eq]; exact hs
  | drawn => rw [State.setV_stack, State.drawPixels_eq]; exact hs
  | keysTested => rw [afterKeyTest_eq]; exact hs
  | _ => exact hs

theorem Effect.pc_eq (h : Effect s i u) : u.pc = s.pc := by
  cases h with
  | pushed _ h => rw [State.push_eq s _ h]
  | loaded => exact loadBlock_pc s _
  | stored => exact State.writeBytes_pc s _ _
  | drawn => exact drawPixels_pc s _
  | keysTested => exact afterKeyTest_pc s _
  | _ => rfl

end

/-! ### The display -/

/-- Every pixel of a sprite is wrapped onto the display. -/
theorem mem_spritePixels {s : State} {x0 y0 n : Nat} {p : SpritePixel} : p ∈ spritePixels s x0 y0 n ↔
    ∃ r < n, ∃ c < 8, p = ⟨(x0 + c) % s.cfg.displayW, (y0 + r) % s.cfg.displayH, spriteBit s r c⟩ := by
  simp only [spritePixels, spriteRow, List.mem_flatMap, List.mem_map, List.mem_range, spriteBit, eq_comm]

/-- A call on a place of the display leaves no pixel set outside it. -/
theorem drawPixel_display_lt {s : State} {x y : Nat} (b : Bool)
    (hd : s.display < 2 ^ (s.cfg.displayW * s.cfg.displayH)) (hx : x < s.cfg.displayW) (hy : y < s.cfg.displayH) :
    (s.drawPixel x y b).display < 2 ^ (s.cfg.displayW * s.cfg.displayH) := by
  have hindex : s.pixelIndex x y < s.cfg.displayW * s.cfg.displayH :=
    calc y * s.cfg.displayW + x < y * s.cfg.displayW + s.cfg.displayW := Nat.add_lt_add_left hx _
      _ = s.cfg.displayW * (y + 1) := by ring
      _ ≤ s.cfg.displayW * s.cfg.displayH := Nat.mul_le_mul_left _ hy
  rw [State.drawPixel_display, Nat.shiftLeft_eq]
  refine Nat.xor_lt_two_pow hd ?_
  calc b.toNat * 2 ^ s.pixelIndex x y ≤ 1 * 2 ^ s.pixelIndex x y := Nat.mul_le_mul_right _ (Bool.toNat_le b)
    _ = 2 ^ s.pixelIndex x y := Nat.one_mul _
    _ < _ := Nat.pow_lt_pow_right (by decide) hindex

theorem drawPixels_displayBounded {s : State} (ps : List SpritePixel) (hs : DisplayBounded s)
    (hon : ∀ p ∈ ps, p.x < s.cfg.displayW ∧ p.y < s.cfg.displayH) : DisplayBounded (s.drawPixels ps) := by
  induction ps generalizing s with
  | nil => exact hs
  | cons p rest ih =>
    obtain ⟨hx, hy⟩ := hon p List.mem_cons_self
    exact ih ⟨hs.1, drawPixel_display_lt p.value hs.2 hx hy⟩ fun q hq => hon q (List.mem_cons_of_mem p hq)

theorem spritePixels_on_display {s : State} (hw : s.cfg.wf = true) (x0 y0 n : Nat) :
    ∀ p ∈ spritePixels s x0 y0 n, p.x < s.cfg.displayW ∧ p.y < s.cfg.displayH := by
  intro p hp
  obtain ⟨r, -, c, -, rfl⟩ := mem_spritePixels.mp hp
  simp only [Config.wf, Bool.and_eq_true, decide_eq_true_eq] at hw
  obtain ⟨⟨hwidth, hheight⟩, -⟩ := hw
  exact ⟨Nat.mod_lt _ hwidth, Nat.mod_lt _ hheight⟩

theorem Effect.displayBounded {s u : State} {i : Instr} (h : Effect s i u) (hs : DisplayBounded s) :
    DisplayBounded u := by
  cases h with
  | pushed _ h => rw [State.push_eq s _ h]; exact hs
  | loaded => rw [loadBlock_eq]; exact hs
  | stored => rw [State.writeBytes_eq]; exact hs
  | cleared => exact ⟨hs.1, Nat.two_pow_pos _⟩
  | drawn => exact drawPixels_displayBounded _ hs (spritePixels_on_display hs.1 _ _ _)
  | keysTested => rw [afterKeyTest_eq]; exact hs
  | _ => exact hs

end Sys2Proof.Effects

/-! The invariants of a run. A fault keeps all of them at once; an effect keeps each, and an ending adds the bound on the
PC that it writes. -/

namespace Sys2Proof.Invariants

open Sys2Proof.Machine Sys2Proof.Cycle Sys2Proof.Effects Sys2Proof.Flow

theorem inv_raise {s : State} (h : Inv s) (info : FaultInfo) : Inv (s.raise info) :=
  ⟨h.mem, h.pc, h.sound, fun _ _ => rfl, h.display⟩

/-- The sum of a byte and a 12-bit address does not wrap (R178). -/
theorem jumpV0Target_toNat (s : State) (nnn : Addr) :
    (jumpV0Target s nnn).toNat = (s.getV 0).toNat + nnn.toNat := by
  have hv := (s.getV 0).isLt
  have hn := nnn.isLt
  rw [jumpV0Target, BitVec.toNat_add, BitVec.toNat_setWidth_of_le (by decide), addrWord_toNat,
    Nat.mod_eq_of_lt (by omega)]

/-- No ending of a fetched instruction writes a PC above 0x10FE (R34). -/
theorem ends_pc_le {i : Instr} {s u t : State} (h : Ends i s u t) (hs : PcBounded s) (hpc : s.pc.toNat ≤ 4094)
    (hu : u.pc = s.pc) : t.pc.toNat ≤ 0x10FE := by
  cases h with
  | next | skip => rw [State.jump_pc]; bv_omega
  | address nnn => rw [State.jump_pc, addrWord_toNat]; have := nnn.isLt; omega
  | popped => exact Nat.le_trans (hs.2 ⟨(s.depth.val - 1) % 16, Nat.mod_lt _ (by decide)⟩) (by decide)
  | indexed nnn =>
    rw [State.jump_pc, jumpV0Target_toNat]
    have := (s.getV 0).isLt
    have := nnn.isLt
    omega
  | retry => rw [State.retry_pc, hu]; omega

/-- An ending reports no fault. -/
theorem ends_outcome {i : Instr} {s u t : State} (h : Ends i s u t) :
    t.outcome = some .executed ∨ t.outcome = some .retry := by
  cases h with
  | retry => exact .inr rfl
  | _ => exact .inl rfl

theorem inv_of_effect {i : Instr} {s u t : State} (hs : Inv s) (hpc : s.pc.toNat ≤ 4094) (hu : Effect s i u)
    (ht : Ends i s u t) : Inv t := by
  have hpcs : PcBounded t := ⟨ends_pc_le ht hs.pc hpc hu.pc_eq, by rw [ht.eq]; exact hu.stack_le hpc hs.pc.2⟩
  have hfault : FaultHalts t := fun info ho => by obtain h | h := ends_outcome ht <;> simp [h] at ho
  refine ⟨?_, hpcs, ?_, hfault, ?_⟩ <;> rw [ht.eq]
  · exact hu.memCanonical hs.mem
  · exact hu.soundLatched hs.sound
  · exact hu.displayBounded hs.display

/-- Settles O59: a step is a fault, which halts and keeps the rest, or the effect and the ending of a fetched
instruction, each of which keeps every part of the invariant. -/
theorem stepKeepsInvariants : Obligations.StepKeepsInvariants := by
  intro s t hs hstep
  obtain ⟨info, rfl⟩ | ⟨i, u, hpc, hu, ht⟩ := step_next_cases hstep
  · exact inv_raise hs info
  · exact inv_of_effect hs hpc hu ht

/-! ### The host's operations -/

theorem inv_halt {s : State} (h : Inv s) : Inv (halt s) := ⟨h.mem, h.pc, h.sound, fun _ _ => rfl, h.display⟩

/-- A tick that leaves ST above 0 found it above 0, with the sound on; one that silences leaves ST at 0. -/
theorem tick_soundLatched {s : State} (h : SoundLatched s) : SoundLatched (tick s) := by
  obtain ⟨hst, -, ht⟩ | ⟨hno, ht⟩ := tick_cases s <;> rw [ht]
  · exact ⟨fun hne => absurd hst hne, rfl⟩
  · refine ⟨fun hne => h.1 fun hz => hne ?_, h.2⟩
    simp [countDown, hz]

theorem inv_tick {s : State} (h : Inv s) : Inv (tick s) := by
  have hsound := tick_soundLatched h.sound
  obtain ⟨-, -, ht⟩ | ⟨-, ht⟩ := tick_cases s <;> rw [ht] at hsound ⊢ <;>
    exact ⟨h.mem, h.pc, hsound, h.fault, h.display⟩

theorem inv_loadState {s : State} (h : Inv s) (rom : List Byte) : Inv (loadState rom s) := by
  have hmem : MemCanonical (loadState rom s) := State.writeBytes_canonical _ _ _ rfl
  unfold loadState at hmem ⊢
  rw [State.writeBytes_eq] at hmem ⊢
  refine ⟨hmem, ⟨(by decide : (0x200#16).toNat ≤ 0x10FE), fun k => ?_⟩, ⟨fun hne => absurd rfl hne, h.sound.2⟩,
    fun _ ho => by simp at ho, h.display⟩
  simp

theorem after_inv {s : State} (h : Inv s) (op : HostOp) : Inv (after op s) := by
  cases op with
  | step =>
    obtain hkept | hstep := after_step_eq_or s
    · rwa [hkept]
    · exact stepKeepsInvariants s _ h hstep
  | tick => exact inv_tick h
  | load rom =>
    obtain hload | hload := after_load_eq_or rom s <;> rw [hload]
    · exact h
    · exact inv_loadState h rom
  | halt => exact inv_halt h

/-- Settles O60, by induction on the series: each operation keeps the invariants. -/
theorem hostRunsKeepInvariants : Obligations.HostRunsKeepInvariants := by
  intro ops
  induction ops with
  | nil => exact fun s h => h
  | cons op rest ih => exact fun s h => ih _ (after_inv h op)

/-- Settles O58: memory and the display are clear and no part of the record is set. -/
theorem invariantsHoldAtPowerOn : Obligations.InvariantsHoldAtPowerOn where
  mem := rfl
  pc := by unfold PcBounded; decide
  sound := ⟨fun h => absurd rfl h, rfl⟩
  fault := fun _ h => by cases h
  display := ⟨rfl, Nat.two_pow_pos _⟩

end Sys2Proof.Invariants

/-! Frames compose: what two changes in a row leave alone is what both leave alone. The frames of the operations are proved
once here, and the frame of an instruction is their sum. -/

namespace Sys2Proof.Frames

open Sys2Proof.Machine Sys2Proof.Flow Sys2Proof.Effects

theorem same_trans {p : Part} {s t u : State} (h : p.same s t) (h' : p.same t u) : p.same s u := by
  cases p <;> exact Eq.trans h' h

theorem frame_refl (c : Part → Prop) (s : State) : Frame c s s := by
  intro p _
  cases p <;> rfl

theorem frame_trans {c : Part → Prop} {s t u : State} (h : Frame c s t) (h' : Frame c t u) : Frame c s u :=
  fun p hp => same_trans (h p hp) (h' p hp)

theorem frame_mono {c d : Part → Prop} {s t : State} (h : Frame c s t) (hcd : ∀ p, c p → d p) : Frame d s t :=
  fun p hp => h p fun hc => hp (hcd p hc)

theorem frame_of_subset {l m : List Part} {s t : State} (h : Frame (· ∈ l) s t) (hlm : l ⊆ m) : Frame (· ∈ m) s t :=
  frame_mono h fun _ hp => hlm hp

/-- The parts of two changes in a row, one list after the other. -/
theorem frame_append {l m : List Part} {s t u : State} (h : Frame (· ∈ l) s t) (h' : Frame (· ∈ m) t u) :
    Frame (· ∈ l ++ m) s u :=
  frame_trans (frame_mono h fun _ => List.mem_append_left m) (frame_mono h' fun _ => List.mem_append_right l)

theorem frame_next (s : State) : Frame (· ∈ [Part.pc, .outcome]) s s.next := frame_jump s _

theorem frame_skipIf (s : State) (c : Bool) : Frame (· ∈ [Part.pc, .outcome]) s (s.skipIf c) := by
  rw [State.skipIf_eq]
  exact frame_jump s _

theorem frame_retry (s : State) : Frame (· ∈ [Part.outcome]) s s.retry := by
  intro p hp
  cases p with
  | outcome => exact absurd (by simp) hp
  | _ => rfl

theorem frame_setV (s : State) (x : Reg) (b : Byte) : Frame (· ∈ [Part.v x]) s (s.setV x b) := by
  intro p hp
  cases p with
  | v r => exact State.getV_setV_other s (fun h => hp (by simp [h])) b
  | _ => rfl

theorem frame_setSt (s : State) (b : Byte) : Frame (· ∈ [Part.st]) s (s.setSt b) := by
  intro p hp
  cases p with
  | st => exact absurd (by simp) hp
  | _ => rfl

theorem frame_setSoundEnabled (s : State) (b : Bool) : Frame (· ∈ [Part.soundEnabled]) s (s.setSoundEnabled b) := by
  intro p hp
  cases p with
  | soundEnabled => exact absurd (by simp) hp
  | _ => rfl

theorem frame_enableSound (s : State) : Frame (· ∈ [Part.audible, .calls]) s s.enableSound := by
  intro p hp
  cases p with
  | audible | calls => exact absurd (by simp) hp
  | _ => rfl

theorem frame_waitKey (s : State) : Frame (· ∈ [Part.calls, .inputs]) s s.waitKey := by
  intro p hp
  cases p with
  | calls | inputs => exact absurd (by simp) hp
  | _ => rfl

theorem frame_afterKeyTest (s : State) (k : Byte) : Frame (· ∈ [Part.calls, .inputs]) s (afterKeyTest s k) := by
  rw [afterKeyTest_eq]
  intro p hp
  cases p with
  | calls | inputs => exact absurd (by simp) hp
  | _ => rfl

theorem frame_takeRandomByte (s : State) : Frame (· ∈ [Part.inputs]) s s.takeRandomByte := by
  intro p hp
  cases p with
  | inputs => exact absurd (by simp) hp
  | _ => rfl

theorem frame_drawPixels (s : State) (ps : List SpritePixel) :
    Frame (· ∈ [Part.display, .calls]) s (s.drawPixels ps) := by
  rw [State.drawPixels_eq]
  intro p hp
  cases p with
  | display | calls => exact absurd (by simp) hp
  | _ => rfl

theorem frame_dropTop {s : State} : Frame (· ∈ [Part.sp]) s s.dropTop := by
  intro p hp
  cases p with
  | sp => exact absurd (by simp) hp
  | _ => rfl

theorem frame_push {s : State} {k : Fin 16} (hk : s.depth.val = k.val) (w : Word) :
    Frame (· ∈ [Part.sp, .stackEntry k]) s (s.push w) := by
  have hroom : s.depth.val < 16 := hk ▸ k.isLt
  rw [State.push_eq s w hroom]
  intro p hp
  cases p with
  | sp => exact absurd (by simp) hp
  | stackEntry j =>
    have hne : s.depth.val ≠ j.val := fun h => hp (by simp [Fin.ext (hk.symm.trans h)])
    exact Vector.getElem_set_ne hroom j.isLt hne
  | _ => rfl

theorem frame_writeBytes (s : State) (a : Nat) (bs : List Byte) :
    Frame (fun p => ∃ k < bs.length, p = .mem (a + k)) s (s.writeBytes a bs) := by
  intro p hp
  cases p with
  | mem k =>
    refine State.readMem_writeBytes_other s a k bs ?_
    by_contra hin
    exact hp ⟨k - a, by omega, congrArg _ (by omega)⟩
  | _ => rw [State.writeBytes_eq]; rfl

theorem frame_loadBlock (s : State) {n : Nat} (hn : n ≤ 16) :
    Frame (fun p => ∃ k : Reg, k.val < n ∧ p = .v k) s (loadBlock s n) := by
  intro p hp
  cases p with
  | v r => exact (getV_loadBlock s n hn r).trans (if_neg fun h => hp ⟨r, h, rfl⟩)
  | _ => rw [loadBlock_eq]; rfl

theorem frame_tick (s : State) : Frame (· ∈ [Part.dt, .st, .soundEnabled, .audible, .calls]) s (tick s) := by
  intro p hp
  cases p with
  | dt | st | soundEnabled | audible | calls => exact absurd (by simp) hp
  | _ => obtain ⟨-, -, h⟩ | ⟨-, h⟩ := tick_cases s <;> rw [h] <;> rfl

end Sys2Proof.Frames

/-! The rules of the whole machine: how an instruction ends and what it can change, for all instructions at once. -/

namespace Sys2Proof.Rules

open Sys2Proof.Machine Sys2Proof.Cycle Sys2Proof.Flow Sys2Proof.Effects Sys2Proof.Invariants Sys2Proof.Frames

/-! ### How an instruction ends (R145, R147) -/

/-- Settles O13: a fault is taken before any effect, and what completes reports none. -/
theorem faultingStepOnlyHalts : Obligations.FaultingStepOnlyHalts := by
  intro s t info hrun hstep ho
  obtain ⟨info', hpc, rfl⟩ | hdone := step_faultsOrCompletes hrun t hstep
  · obtain rfl : info' = info := by simpa using ho
    exact ⟨faulted_raise _ s, hpc⟩
  · exact absurd ho (hdone.not_faulted info)

/-- Settles O14: the endings of the inversion of exec, and the fault. -/
theorem everyInstructionEndsOneWay : Obligations.EveryInstructionEndsOneWay := by
  intro i s t h
  obtain ⟨info, -, rfl⟩ | ⟨u, hu, ht⟩ := exec_cases h
  · exact .inr (.inr (.inr (.inr ⟨info, rfl, rfl⟩)))
  cases ht with
  | next => exact .inl ⟨rfl, rfl⟩
  | skip => exact .inr (.inl ⟨rfl, rfl⟩)
  | address nnn hi => exact .inr (.inr (.inl ⟨rfl, .inl ⟨nnn, hi, addrWord_toNat nnn⟩⟩))
  | popped hi => exact .inr (.inr (.inl ⟨rfl, .inr (.inl ⟨hi, rfl⟩)⟩))
  | indexed nnn hi => exact .inr (.inr (.inl ⟨rfl, .inr (.inr ⟨nnn, hi, jumpV0Target_toNat s nnn⟩)⟩))
  | retry x hi => exact .inr (.inr (.inr (.inl ⟨rfl, ⟨x, hi⟩, hu.pc_eq⟩)))

/-! ### Refusals (60_exceptions.md R322) -/

theorem endFlagWrite_eq_next {s : State} {x : Reg} (h : ¬ (s.cfg.vfAliasPolicy = .fault ∧ x = Reg.vf)) (w : State) :
    endFlagWrite s x w = .next w.next := if_neg h

theorem exists_next_ite (c : Prop) [Decidable c] (a b : State) :
    ∃ t, (if c then .next a else .next b : Host.Outcome State Fault Refusal) = .next t := by
  split <;> exact ⟨_, rfl⟩

/-- The five forms apart, every arm of exec answers a next state. -/
theorem exists_next_of_not_alias {i : Instr} {s : State} (h : ¬ (s.cfg.vfAliasPolicy = .fault ∧ isFlagAlias i)) :
    ∃ t, exec i s = .next t := by
  cases i with
  | addVxVy x y | subVxVy x y | subnVxVy x y | shrVxVy x y | shlVxVy x y =>
    exact ⟨_, endFlagWrite_eq_next (fun ⟨hp, hx⟩ => h ⟨hp, y, by simp [hx]⟩) _⟩
  | ret | callAddr | ldStVx | ldFVx | ldBVx | ldIVx | ldVxI | drwVxVyN => exact exists_next_ite _ _ _
  | sysAddr nnn =>
    change ∃ t, execSysAddr nnn s = .next t
    unfold execSysAddr
    cases s.cfg.sysPolicy <;> exact ⟨_, rfl⟩
  | _ => exact ⟨_, rfl⟩

/-- Settles O15: the five forms check the policy first, and every other path of exec answers a next state. -/
theorem refusedExactlyOnVfAlias : Obligations.RefusedExactlyOnVfAlias := by
  refine fun i s => ⟨?_, exists_next_of_not_alias⟩
  rintro ⟨hpolicy, y, rfl | rfl | rfl | rfl | rfl⟩ <;> exact if_pos ⟨hpolicy, rfl⟩

/-! ### Registers (10_state.md R31, R32) -/

theorem effect_getV_eq {i : Instr} {s u : State} {r : Reg} (h : Effect s i u) (hdest : ¬ isDestination r i)
    (hflag : ¬ (r = Reg.vf ∧ writesFlag i)) : u.getV r = s.getV r := by
  have hne : ∀ {x}, isDestination x i → r ≠ x := fun hx hrx => hdest (hrx ▸ hx)
  have hvf : writesFlag i → r ≠ Reg.vf := fun hf hr => hflag ⟨hr, hf⟩
  cases h with
  | pushed _ h => rw [State.push_eq s _ h]; rfl
  | register _ x b hx => exact State.getV_setV_other s (hne hx) b
  | resultThenFlag _ x b f hx hf => rw [getV_writeResultThenFlag, if_neg (hvf hf), if_neg (hne hx)]
  | flagThenShift _ x f g hx hf => rw [getV_writeFlagThenShift, if_neg (hne hx), if_neg (hvf hf)]
  | random x nn b => exact State.getV_setV_other _ hdest b
  | loaded x => exact (getV_loadBlock s _ (by omega) r).trans (if_neg fun h => hdest (Nat.le_of_lt_succ h))
  | stored => exact State.writeBytes_getV s _ _ r
  | drawn x y n _ _ f =>
    rw [State.getV_setV_other _ (hvf ⟨x, y, by simp⟩), State.drawPixels_eq]
    rfl
  | keysTested => rw [afterKeyTest_eq]; rfl
  | keyTaken x b => exact State.getV_setV_other _ hdest b
  | _ => rfl

/-- Settles O53: no effect of an instruction writes another register, and neither a fault nor an ending writes any. -/
theorem registersChangeOnlyAsNamed : Obligations.RegistersChangeOnlyAsNamed := by
  intro i s t r h hdest hflag
  obtain ⟨info, -, rfl⟩ | ⟨u, hu, ht⟩ := exec_cases h
  · rfl
  · exact (ht.getV_eq r).trans (effect_getV_eq hu hdest hflag)

/-! ### Memory (20_memory.md R61, R62, R65) -/

/-- The same machine with another memory. -/
def withMem (m : Memory) (s : State) : State := { s with mem := m }

/-- An answer with its next state, if it has one, changed by f. -/
def onNext (f : State → State) : Host.Outcome State Fault Refusal → Host.Outcome State Fault Refusal
  | .next t => .next (f t)
  | .fault r => .fault r
  | .refused r => .refused r

theorem ite_eq_onNext {f : State → State} {c : Prop} [Decidable c] {a b a' b' : Host.Outcome State Fault Refusal}
    (ha : a' = onNext f a) (hb : b' = onNext f b) : (if c then a' else b') = onNext f (if c then a else b) := by
  split <;> assumption

theorem push_withMem (m : Memory) (s : State) (w : Word) : (withMem m s).push w = withMem m (s.push w) := by
  by_cases h : s.depth.val < 16 <;> simp [withMem, State.push, h]

theorem afterKeyTest_withMem (m : Memory) (s : State) (k : Byte) :
    afterKeyTest (withMem m s) k = withMem m (afterKeyTest s k) := by
  simp only [afterKeyTest, withMem]
  split
  · rfl
  · cases s.cfg.keyOorPolicy <;> rfl

theorem keyTest_skipIf_withMem (m : Memory) (s : State) (k : Byte) (c : Bool) :
    (afterKeyTest (withMem m s) k).skipIf c = withMem m ((afterKeyTest s k).skipIf c) := by
  rw [afterKeyTest_withMem]
  cases c <;> rfl

/-- An instruction that does not reach memory does the same with any memory in its place. -/
theorem exec_withMem {i : Instr} (hi : ¬ reachesMemory i) (m : Memory) (s : State) :
    exec i (withMem m s) = onNext (withMem m) (exec i s) := by
  cases i with
  | ldBVx x | ldIVx x | ldVxI x | drwVxVyN x => exact absurd ⟨x, by simp⟩ hi
  | ret | ldStVx | ldFVx | addVxVy | subVxVy | subnVxVy | shrVxVy | shlVxVy =>
    exact ite_eq_onNext rfl rfl
  | callAddr nnn =>
    have hjump : ((withMem m s).push (s.pc + 2)).jump (addrWord nnn) =
        withMem m ((s.push (s.pc + 2)).jump (addrWord nnn)) := by
      rw [push_withMem]
      rfl
    exact ite_eq_onNext rfl (congrArg _ hjump)
  | seVxNn | sneVxNn | seVxVy | sneVxVy =>
    change .next ((withMem m s).skipIf _) = Host.Outcome.next (withMem m (s.skipIf _))
    simp only [State.skipIf_eq]
    rfl
  | skpVx | sknpVx => exact congrArg _ (keyTest_skipIf_withMem m s _ _)
  | sysAddr nnn =>
    change execSysAddr nnn (withMem m s) = onNext (withMem m) (execSysAddr nnn s)
    unfold execSysAddr withMem
    cases s.cfg.sysPolicy <;> rfl
  | ldVxN x =>
    change .next (endKeyWait x s.keyPress (withMem m s.waitKey)) =
      Host.Outcome.next (withMem m (endKeyWait x s.keyPress s.waitKey))
    cases s.keyPress <;> rfl
  | _ => rfl

/-- Settles O54: the answer with another memory is `exec_withMem`; that memory is kept is its case of the machine's own
memory put back. -/
theorem onlyFourInstructionsReachMemory : Obligations.OnlyFourInstructionsReachMemory := by
  intro i s t m hi h
  have hany : ∀ m, exec i (withMem m s) = .next (withMem m t) := fun m => by rw [exec_withMem hi, h]; rfl
  have hown : t = withMem s.mem t := Host.Outcome.next.inj (h.symm.trans (hany s.mem))
  have hmem : t.mem = (withMem s.mem t).mem := congrArg State.mem hown
  exact ⟨hmem, hany m⟩

/-- Settles O55: of the effects only a block store changes a byte, inside its bounds. -/
theorem storesStayInTheirRange : Obligations.StoresStayInTheirRange := by
  intro i s t a h hne
  obtain ⟨info, -, rfl⟩ | ⟨u, hu, ht⟩ := exec_cases h
  · exact absurd rfl hne
  · exact (hu.readMem_eq_or_stored a).resolve_left (ht.readMem_eq a ▸ hne)

/-! ### The record of calls (44_peripheral.md R276) -/

/-- An effect puts its calls, if the instruction makes any, before those on record. -/
theorem effect_calls {i : Instr} {s u : State} (h : Effect s i u) :
    ∃ new, u.calls = new ++ s.calls ∧ (¬ makesCall i → new = []) := by
  cases h with
  | pushed _ h => rw [State.push_eq s _ h]; exact ⟨[], rfl, fun _ => rfl⟩
  | loaded => rw [loadBlock_eq]; exact ⟨[], rfl, fun _ => rfl⟩
  | stored => exact ⟨[], State.writeBytes_calls s _ _, fun _ => rfl⟩
  | cleared => exact ⟨[.clearDisplay], rfl, fun hno => absurd (.inl rfl) hno⟩
  | sounding x => exact ⟨[.enableSound], rfl, fun hno => absurd (.inr ⟨x, by simp⟩) hno⟩
  | drawn x => rw [State.drawPixels_eq]; exact ⟨_, rfl, fun hno => absurd (.inr ⟨x, by simp⟩) hno⟩
  | keysTested _ k hi =>
    obtain ⟨x, rfl | rfl⟩ := hi <;> rw [afterKeyTest_eq] <;>
      exact ⟨[.getKeys], rfl, fun hno => absurd (.inr ⟨x, by simp⟩) hno⟩
  | noKey x | keyTaken x => exact ⟨[.waitKey], rfl, fun hno => absurd (.inr ⟨x, by simp⟩) hno⟩
  | _ => exact ⟨[], rfl, fun _ => rfl⟩

theorem exec_calls {i : Instr} {s t : State} (h : exec i s = .next t) :
    ∃ new, t.calls = new ++ s.calls ∧ (¬ makesCall i → new = []) := by
  obtain ⟨info, -, rfl⟩ | ⟨u, hu, ht⟩ := exec_cases h
  · exact ⟨[], rfl, fun _ => rfl⟩
  · obtain ⟨new, hnew, hnil⟩ := effect_calls hu
    exact ⟨new, ht.calls_eq.trans hnew, hnil⟩

theorem step_calls {s t : State} (h : step s = .next t) : ∃ new, t.calls = new ++ s.calls := by
  obtain ⟨info, rfl⟩ | ⟨i, u, -, hu, ht⟩ := step_next_cases h
  · exact ⟨[], rfl⟩
  · obtain ⟨new, hnew, -⟩ := effect_calls hu
    exact ⟨new, ht.calls_eq.trans hnew⟩

theorem after_load_calls (rom : List Byte) (s : State) : (after (.load rom) s).calls = s.calls := by
  obtain h | h := after_load_eq_or rom s <;> rw [h]
  exact State.writeBytes_calls _ _ _

theorem after_calls (op : HostOp) (s : State) : ∃ new, (after op s).calls = new ++ s.calls := by
  cases op with
  | step =>
    obtain hkept | hstep := after_step_eq_or s
    · exact ⟨[], congrArg _ hkept⟩
    · exact step_calls hstep
  | tick =>
    change ∃ new, (tick s).calls = new ++ s.calls
    obtain ⟨-, -, h⟩ | ⟨-, h⟩ := tick_cases s <;> rw [h]
    · exact ⟨[.disableSound], rfl⟩
    · exact ⟨[], rfl⟩
  | load rom => exact ⟨[], after_load_calls rom s⟩
  | halt => exact ⟨[], rfl⟩

theorem exec_ldStVx_of_zero {x : Reg} {s : State} (h : s.getV x = 0) :
    exec (.ldStVx x) s = .next (s.setSt (s.getV x)).next := if_neg (by simp [h])

/-- Settles O56: the calls of each effect, and for faults that they change the halt flag and the record only. -/
theorem onlyListedOperationsMakeCalls : Obligations.OnlyListedOperationsMakeCalls := by
  refine ⟨fun i s t h hno => ?_, fun x s t h hzero => ?_, fun s t info hrun hstep ho => ?_, after_load_calls,
    fun _ => rfl, after_calls⟩
  · obtain ⟨new, hnew, hnil⟩ := exec_calls h
    rw [hnew, hnil hno, List.nil_append]
  · rw [exec_ldStVx_of_zero hzero] at h
    cases h
    rfl
  · obtain ⟨⟨-, -, hframe⟩, -⟩ := faultingStepOnlyHalts s t info hrun hstep ho
    exact hframe .calls (by simp)

/-! ### The configuration (00_scope.md R7) -/

theorem step_cfg {s t : State} (h : step s = .next t) : t.cfg = s.cfg := by
  obtain ⟨info, rfl⟩ | ⟨i, u, -, hu, ht⟩ := step_next_cases h
  · rfl
  · exact ht.cfg_eq.trans hu.cfg_eq

theorem after_cfg (op : HostOp) (s : State) : (after op s).cfg = s.cfg := by
  cases op with
  | step =>
    obtain hkept | hstep := after_step_eq_or s
    · exact congrArg _ hkept
    · exact step_cfg hstep
  | tick => exact frame_tick s .cfg (by simp)
  | load rom =>
    obtain h | h := after_load_eq_or rom s <;> rw [h]
    exact State.writeBytes_cfg _ _ _
  | halt => rfl

/-- Settles O57, by induction on the series. -/
theorem configurationIsFixed : Obligations.ConfigurationIsFixed := by
  intro ops
  induction ops with
  | nil => exact fun _ => rfl
  | cons op rest ih => exact fun s => (ih _).trans (after_cfg op s)

end Sys2Proof.Rules

/-! The fetch of a running machine (40_cycle.md R143-R145). -/

namespace Sys2Proof.Cycle

open Sys2Proof.Machine Sys2Proof.Flow

/-- Settles O10: PC past the fetch limit fails the check of the fetch, which raises. -/
theorem fetchPastLimitFaults : Obligations.FetchPastLimitFaults := fun s hrun hpc =>
  ⟨_, step_eq_raise_of_pc_past_limit hrun hpc, faulted_raise _ s⟩

/-- Settles O11: the fetched word is the opcode at PC, and decoding it succeeds. -/
theorem stepRunsDecodedInstruction : Obligations.StepRunsDecodedInstruction := by
  intro s o i hrun hpc ho hdis
  rw [step_eq_decodeAndExecute hrun hpc, fetchWord_eq_of_toNat ho, decodeAndExecute, hdis]

end Sys2Proof.Cycle

/-! Calls, returns, skips and the indexed jump (41_flow.md R170-R178). -/

namespace Sys2Proof.Flow

open Sys2Proof.Machine Sys2Proof.Cycle Sys2Proof.Frames Sys2Proof.Invariants

/-! ### SYS_ADDR -/

theorem encode_sysAddr_toNat (nnn : Addr) : (encode (.sysAddr nnn)).toNat = nnn.toNat := by
  change (0x0000#16 ||| putNnn nnn).toNat = nnn.toNat
  rw [BitVec.zero_or, putNnn, BitVec.toNat_setWidth_of_le (by decide)]

theorem exec_sysAddr_of_nop {s : State} (h : s.cfg.sysPolicy = .nop) (nnn : Addr) :
    exec (.sysAddr nnn) s = .next s.next := by
  change execSysAddr nnn s = _
  rw [execSysAddr, h]

theorem exec_sysAddr_of_fatal {s : State} (h : s.cfg.sysPolicy = .fatal) (nnn : Addr) :
    exec (.sysAddr nnn) s = .next (s.raise (.illegalInstruction (encode (.sysAddr nnn)) s.pc)) := by
  change execSysAddr nnn s = _
  rw [execSysAddr, h]

/-- Settles O16: under nop it is the step to the next instruction, and under fatal a fault with its own opcode. -/
theorem sysAddrByPolicy : Obligations.SysAddrByPolicy := fun nnn s =>
  ⟨fun h => ⟨_, exec_sysAddr_of_nop h nnn, ⟨rfl, rfl⟩, frame_next s⟩,
    fun h => ⟨_, _, exec_sysAddr_of_fatal h nnn, encode_sysAddr_toNat nnn, faulted_raise _ s⟩⟩

/-! ### The stack -/

theorem sp_eq_natCast_iff {s : State} {k : Nat} : s.sp = k ↔ s.depth.val = k + 1 := by
  unfold State.sp
  omega

theorem sp_eq_neg_one_iff {s : State} : s.sp = -1 ↔ s.depth.val = 0 := by
  unfold State.sp
  omega

theorem sp_add_one_eq_natCast_iff {s : State} {k : Nat} : s.sp + 1 = k ↔ s.depth.val = k := by
  unfold State.sp
  omega

theorem top_eq {s : State} {k : Fin 16} (h : s.depth.val = k.val + 1) : s.top = s.stack[k] := by
  have hk : (s.depth.val - 1) % 16 = k.val := by omega
  simp only [State.top, hk, Fin.getElem_fin]

theorem stack_push_same {s : State} {k : Fin 16} (h : s.depth.val = k.val) (w : Word) : (s.push w).stack[k] = w := by
  rw [State.push_eq s w (h ▸ k.isLt)]
  simp [h]

theorem exec_ret_of_nonempty {s : State} (h : s.depth.val ≠ 0) : exec .ret s = .next (s.dropTop.jump s.top) := if_neg h

theorem exec_ret_of_empty {s : State} (h : s.depth.val = 0) : exec .ret s = .next (s.raise (.stackUnderflow s.pc)) :=
  if_pos h

theorem exec_callAddr_of_room {s : State} (h : s.depth.val ≠ 16) (nnn : Addr) :
    exec (.callAddr nnn) s = .next ((s.push (s.pc + 2)).jump (addrWord nnn)) := if_neg h

theorem exec_callAddr_of_full {s : State} (h : s.depth.val = 16) (nnn : Addr) :
    exec (.callAddr nnn) s = .next (s.raise (.stackOverflow s.pc)) := if_pos h

/-- Settles O17: with depth k + 1 the instruction is a pop and a jump to entry k, and with depth 0 a fault. -/
theorem retPopsOrUnderflows : Obligations.RetPopsOrUnderflows := by
  refine fun s => ⟨fun k hsp => ?_, fun hsp => ⟨_, exec_ret_of_empty (sp_eq_neg_one_iff.mp hsp), faulted_raise _ s⟩⟩
  have hdepth := sp_eq_natCast_iff.mp hsp
  refine ⟨_, exec_ret_of_nonempty (by omega), top_eq hdepth, State.sp_dropTop s (by omega), rfl, ?_⟩
  exact frame_of_subset (frame_append frame_dropTop (frame_jump _ _)) (by simp)

/-- Settles O19: with depth k < 16 the instruction is a push into entry k and a jump, and with depth 16 a fault. -/
theorem callPushesOrOverflows : Obligations.CallPushesOrOverflows := by
  refine fun nnn s => ⟨fun k hsp => ?_, fun hsp => ?_⟩
  · have hdepth := sp_add_one_eq_natCast_iff.mp hsp
    refine ⟨_, exec_callAddr_of_room (by omega) nnn, addrWord_toNat nnn, State.sp_push s _ (by omega),
      stack_push_same hdepth _, rfl, ?_⟩
    exact frame_of_subset (frame_append (frame_push hdepth _) (frame_jump _ _)) (by simp)
  · exact ⟨_, exec_callAddr_of_full (sp_eq_natCast_iff.mp hsp) nnn, faulted_raise _ s⟩

/-- Settles O20: the entry that the CALL pushed is the one that the RET pops. -/
theorem retResumesAfterCall : Obligations.RetResumesAfterCall := by
  intro nnn s t u hroom hcall husp hustack
  have hlt : s.depth.val < 16 := by
    unfold State.sp at hroom
    omega
  obtain ⟨⟨t', hcall', -, htsp, htstack, -, -⟩, -⟩ := (callPushesOrOverflows nnn s).imp_left fun h =>
    h ⟨s.depth.val, hlt⟩ (sp_add_one_eq_natCast_iff.mpr rfl)
  obtain rfl : t' = t := Host.Outcome.next.inj (hcall'.symm.trans hcall)
  have hdepth : u.sp = s.depth.val := by rw [husp, htsp, sp_add_one_eq_natCast_iff]
  obtain ⟨w, hret, hpc, hsp, -, hframe⟩ := (retPopsOrUnderflows u).1 ⟨s.depth.val, hlt⟩ hdepth
  refine ⟨w, hret, ?_, by rw [hsp, husp, htsp, Int.add_sub_cancel], hframe⟩
  rw [hpc, hustack, htstack]

/-! ### Skips and the indexed jump -/

section
variable {s u : State} {c : Bool} {P : Prop} [Decidable P]

theorem advanced_skipIf (hpc : u.pc = s.pc) (h : c = true ↔ P) : Advanced (if P then 4 else 2) s (u.skipIf c) := by
  rw [State.skipIf_eq, hpc]
  refine ⟨?_, rfl⟩
  by_cases hP : P <;> simp [h, hP]

theorem advanced_skipIf_not (hpc : u.pc = s.pc) (h : c = true ↔ ¬ P) : Advanced (if P then 2 else 4) s (u.skipIf c) := by
  rw [← ite_not]
  exact advanced_skipIf hpc h

end

theorem beq_iff_toNat_eq {a b : Byte} : (a == b) = true ↔ a.toNat = b.toNat := by rw [beq_iff_eq, BitVec.toNat_inj]

theorem bne_iff_toNat_ne {a b : Byte} : (a != b) = true ↔ ¬ a.toNat = b.toNat := by rw [bne_iff_ne, Ne, BitVec.toNat_inj]

/-- Settles O21: each instruction is one `skipIf` on its comparison. -/
theorem skipsCompareOperands : Obligations.SkipsCompareOperands := fun _ _ _ s =>
  ⟨⟨_, rfl, advanced_skipIf rfl beq_iff_toNat_eq, frame_skipIf s _⟩,
    ⟨_, rfl, advanced_skipIf_not rfl bne_iff_toNat_ne, frame_skipIf s _⟩,
    ⟨_, rfl, advanced_skipIf rfl beq_iff_toNat_eq, frame_skipIf s _⟩,
    ⟨_, rfl, advanced_skipIf_not rfl bne_iff_toNat_ne, frame_skipIf s _⟩⟩

/-- Settles O22: the instruction is one jump, and the sum that it jumps to does not wrap. -/
theorem jpV0AddrAddsExactly : Obligations.JpV0AddrAddsExactly := fun nnn s =>
  ⟨_, rfl, jumpV0Target_toNat s nnn, rfl, frame_jump s _⟩

end Sys2Proof.Flow

/-! Logic, sums, differences, shifts and the random byte (42_alu.md R203-R211). -/

namespace Sys2Proof.Alu

open Sys2Proof.Machine Sys2Proof.Cycle Sys2Proof.Flow Sys2Proof.Frames Sys2Proof.Rules

/-- Settles O25: each instruction is a register write of the bitwise operation. -/
theorem logicActsBitwiseWithoutFlag : Obligations.LogicActsBitwiseWithoutFlag := by
  refine fun x y s => ⟨⟨_, rfl, advanced_setV_next s x _, frame_setV_next s x _, fun k _ => ?_⟩,
    ⟨_, rfl, advanced_setV_next s x _, frame_setV_next s x _, fun k _ => ?_⟩,
    ⟨_, rfl, advanced_setV_next s x _, frame_setV_next s x _, fun k _ => ?_⟩⟩ <;> rw [getV_setV_next]
  · exact BitVec.getLsbD_or
  · exact BitVec.getLsbD_and
  · exact BitVec.getLsbD_xor

/-! ### Result and flag -/

theorem flagByte_toNat (c : Prop) [Decidable c] : (flagByte (decide c)).toNat = if c then 1 else 0 := by
  by_cases h : c <;> simp [flagByte, h]

theorem toNat_sub_emod (a b : Byte) : ((a - b).toNat : Int) = (a.toNat - b.toNat : Int) % 256 := by
  have := a.isLt
  have := b.isLt
  rw [BitVec.toNat_sub]
  omega

theorem not_refused {s : State} {x : Reg} (h : s.cfg.vfAliasPolicy = .textOrder ∨ x ≠ Reg.vf) :
    ¬ (s.cfg.vfAliasPolicy = .fault ∧ x = Reg.vf) := by
  rintro ⟨hpolicy, hx⟩
  rcases h with h | h
  · simp [hpolicy] at h
  · exact h hx

section
variable {s : State} {x : Reg} (h : s.cfg.vfAliasPolicy = .textOrder ∨ x ≠ Reg.vf)
include h

/-- An instruction that writes its result and then the flag. -/
theorem resultThenFlag_completes (result flag : Byte) :
    ∃ t, endFlagWrite s x (writeResultThenFlag s x result flag) = .next t ∧ Advanced 2 s t ∧
      (x ≠ Reg.vf → t.getV x = result) ∧ t.getV Reg.vf = flag ∧
      Frame (· ∈ [Part.v x, .v Reg.vf, .pc, .outcome]) s t := by
  refine ⟨_, endFlagWrite_eq_next (not_refused h) _, ⟨rfl, rfl⟩, fun hx => ?_, ?_,
    frame_append (frame_append (frame_setV s x _) (frame_setV _ _ _)) (frame_next _)⟩
  · rw [State.next_getV, getV_writeResultThenFlag, if_neg hx, if_pos rfl]
  · rw [State.next_getV, getV_writeResultThenFlag, if_pos rfl]

/-- An instruction that writes the flag and then shifts the destination as it then stands. -/
theorem flagThenShift_completes (flag : Byte) (f : Byte → Byte) :
    ∃ t, endFlagWrite s x (writeFlagThenShift s x flag f) = .next t ∧ Advanced 2 s t ∧
      (x ≠ Reg.vf → t.getV x = f (s.getV x) ∧ t.getV Reg.vf = flag) ∧ (x = Reg.vf → t.getV Reg.vf = f flag) ∧
      Frame (· ∈ [Part.v x, .v Reg.vf, .pc, .outcome]) s t := by
  refine ⟨_, endFlagWrite_eq_next (not_refused h) _, ⟨rfl, rfl⟩, fun hx => ⟨?_, ?_⟩, fun hx => ?_,
    frame_of_subset (frame_append (frame_append (frame_setV s _ _) (frame_setV _ x _)) (frame_next _)) (by simp)⟩ <;>
    rw [State.next_getV, getV_writeFlagThenShift]
  · rw [if_pos rfl, if_neg hx]
  · rw [if_neg (Ne.symm hx), if_pos rfl]
  · rw [if_pos hx.symm, if_pos hx]

end

/-- Settles O26: the result is the byte sum and the flag compares the exact sum. -/
theorem addSetsSumAndCarry : Obligations.AddSetsSumAndCarry := by
  intro x y s h
  obtain ⟨t, hexec, hadv, hres, hflag, hframe⟩ :=
    resultThenFlag_completes h (s.getV x + s.getV y) (carry (s.getV x) (s.getV y))
  exact ⟨t, hexec, hadv, fun hx => by rw [hres hx, BitVec.toNat_add], by rw [hflag]; exact flagByte_toNat _, hframe⟩

/-- Settles O27: the result is the byte difference Vx - Vy and the flag compares the old values. -/
theorem subSetsDifferenceAndStrictFlag : Obligations.SubSetsDifferenceAndStrictFlag := by
  intro x y s h
  obtain ⟨t, hexec, hadv, hres, hflag, hframe⟩ :=
    resultThenFlag_completes h (s.getV x - s.getV y) (greater (s.getV x) (s.getV y))
  exact ⟨t, hexec, hadv, fun hx => by rw [hres hx, toNat_sub_emod], by rw [hflag]; exact flagByte_toNat _, hframe⟩

/-- Settles O28: the result is the byte difference Vy - Vx and the flag compares the old values. -/
theorem subnSetsDifferenceAndStrictFlag : Obligations.SubnSetsDifferenceAndStrictFlag := by
  intro x y s h
  obtain ⟨t, hexec, hadv, hres, hflag, hframe⟩ :=
    resultThenFlag_completes h (s.getV y - s.getV x) (greater (s.getV y) (s.getV x))
  exact ⟨t, hexec, hadv, fun hx => by rw [hres hx, toNat_sub_emod], by rw [hflag]; exact flagByte_toNat _, hframe⟩

/-! ### Shifts -/

theorem toNat_ushiftRight_one (b : Byte) : (b >>> 1).toNat = b.toNat / 2 := by
  rw [BitVec.toNat_ushiftRight, Nat.shiftRight_eq_div_pow, Nat.pow_one]

theorem toNat_shiftLeft_one (b : Byte) : (b <<< 1).toNat = b.toNat * 2 % 256 := by
  rw [BitVec.toNat_shiftLeft, Nat.shiftLeft_eq, Nat.pow_one]

theorem bitOutRight_toNat (b : Byte) : (bitOutRight b).toNat = b.toNat % 2 := by
  rw [bitOutRight, BitVec.toNat_and]
  exact Nat.and_one_is_mod _

theorem bitOutLeft_toNat (b : Byte) : (bitOutLeft b).toNat = b.toNat / 128 := by
  rw [bitOutLeft, BitVec.toNat_ushiftRight, Nat.shiftRight_eq_div_pow]

/-- Settles O29: both are a flag and then a shift; with x = F the shift is of the flag. -/
theorem shiftsSetBitOutAndValue : Obligations.ShiftsSetBitOutAndValue := by
  intro x y s h
  constructor
  · obtain ⟨t, hexec, hadv, hother, hvf, hframe⟩ := flagThenShift_completes h (bitOutRight (s.getV x)) (· >>> 1)
    refine ⟨t, hexec, hadv, fun hx => ?_, fun hx => ?_, hframe⟩
    · obtain ⟨hv, hf⟩ := hother hx
      rw [hv, hf]
      exact ⟨toNat_ushiftRight_one _, bitOutRight_toNat _⟩
    · rw [hvf hx, toNat_ushiftRight_one, bitOutRight_toNat]
      omega
  · obtain ⟨t, hexec, hadv, hother, hvf, hframe⟩ := flagThenShift_completes h (bitOutLeft (s.getV x)) (· <<< 1)
    refine ⟨t, hexec, hadv, fun hx => ?_, fun hx => ?_, hframe⟩
    · obtain ⟨hv, hf⟩ := hother hx
      rw [hv, hf]
      exact ⟨toNat_shiftLeft_one _, bitOutLeft_toNat _⟩
    · have := (s.getV x).isLt
      rw [hvf hx, toNat_shiftLeft_one, bitOutLeft_toNat, ← hx]
      split <;> omega

/-! ### The random byte -/

theorem exec_rndVxNn (x : Reg) (nn : Byte) (s : State) :
    exec (.rndVxNn x nn) s = .next (s.takeRandomByte.setV x (s.randomByte &&& nn)).next := rfl

/-- The machine with r as the only byte that the host has supplied. -/
def withRandomByte (r : Byte) (s : State) : State :=
  { s with inputs := { s.inputs with randomBytes := ⟨[r], 0⟩ } }

theorem frame_withRandomByte (r : Byte) (s : State) : Frame (· = Part.inputs) s (withRandomByte r s) := by
  intro p hp
  cases p with
  | inputs => exact absurd rfl hp
  | _ => rfl

/-- Settles O30: the byte taken is masked into Vx, and a host can supply any byte. -/
theorem rndMasksAnArbitraryByte : Obligations.RndMasksAnArbitraryByte := by
  intro x nn s
  refine ⟨⟨_, exec_rndVxNn x nn s, ⟨rfl, rfl⟩, getV_setV_next _ x _, fun k _ hbit => ?_, rfl, ?_⟩,
    fun r => ⟨withRandomByte r s, _, frame_withRandomByte r s, exec_rndVxNn x nn _, getV_setV_next _ x _⟩⟩
  · rw [getV_setV_next, BitVec.getLsbD_and, Bool.and_eq_true] at hbit
    exact hbit.2
  · exact frame_of_subset (frame_append (frame_takeRandomByte s) (frame_setV_next _ x _)) (by simp)

end Sys2Proof.Alu

/-! The sum into I and the block transfers (43_index_memory.md R241-R245). A transfer checks its range once, before its
first access, so a fault finds nothing to undo. -/

namespace Sys2Proof.IndexMemory

open Sys2Proof.Machine Sys2Proof.Cycle Sys2Proof.Frames

/-- Settles O32: the instruction is a write to I of the 16-bit sum. -/
theorem addIWrapsAt16Bits : Obligations.AddIWrapsAt16Bits := by
  intro x s
  refine ⟨_, rfl, ?_, advanced_setI_next s _, frame_setI_next s _⟩
  change (s.i + (s.getV x).setWidth 16).toNat = _
  rw [BitVec.toNat_add, BitVec.toNat_setWidth_of_le (by decide)]

/-! ### The range check -/

theorem iInBounds_iff {s : State} {k : Nat} : iInBounds s k = true ↔ s.i.toNat + k ≤ 4095 := decide_eq_true_iff

theorem not_iInBounds {s : State} {k : Nat} (h : s.i.toNat + k > 4095) : ¬ iInBounds s k = true :=
  fun hin => absurd (iInBounds_iff.mp hin) (Nat.not_le.mpr h)

section
variable {x : Reg} {s : State}

theorem exec_ldBVx_of_inBounds (h : s.i.toNat + 2 ≤ 4095) :
    exec (.ldBVx x) s = .next (s.writeBytes s.i.toNat (bcdDigits (s.getV x))).next := if_pos (iInBounds_iff.mpr h)

theorem exec_ldBVx_of_outOfBounds (h : s.i.toNat + 2 > 4095) :
    exec (.ldBVx x) s = .next (s.raise (.memoryOutOfBounds s.i s.pc)) := if_neg (not_iInBounds h)

theorem exec_ldIVx_of_inBounds (h : s.i.toNat + x.val ≤ 4095) :
    exec (.ldIVx x) s = .next (s.writeBytes s.i.toNat (registerBlock s x)).next := if_pos (iInBounds_iff.mpr h)

theorem exec_ldIVx_of_outOfBounds (h : s.i.toNat + x.val > 4095) :
    exec (.ldIVx x) s = .next (s.raise (.memoryOutOfBounds s.i s.pc)) := if_neg (not_iInBounds h)

theorem exec_ldVxI_of_inBounds (h : s.i.toNat + x.val ≤ 4095) :
    exec (.ldVxI x) s = .next (loadBlock s (x.val + 1)).next := if_pos (iInBounds_iff.mpr h)

theorem exec_ldVxI_of_outOfBounds (h : s.i.toNat + x.val > 4095) :
    exec (.ldVxI x) s = .next (s.raise (.memoryOutOfBounds s.i s.pc)) := if_neg (not_iInBounds h)

end

/-! ### Block stores -/

section
variable {s : State} {bs : List Byte}

theorem advanced_writeBytes_next (s : State) (a : Nat) (bs : List Byte) : Advanced 2 s (s.writeBytes a bs).next :=
  ⟨congrArg (· + 2) (State.writeBytes_pc s a bs), rfl⟩

theorem frame_writeBytes_next {n : Nat} (hlen : bs.length = n + 1) (a : Nat) :
    Frame (fun p => p ∈ [Part.pc, .outcome] ∨ ∃ k ≤ n, p = .mem (a + k)) s (s.writeBytes a bs).next := by
  refine frame_trans (frame_mono (frame_writeBytes s a bs) ?_) (frame_mono (frame_next _) fun _ => .inl)
  rintro p ⟨k, hk, rfl⟩
  exact .inr ⟨k, by omega, rfl⟩

theorem readMem_writeBytes_next (hm : MemCanonical s) {n k : Nat} (hlen : bs.length = n + 1)
    (hin : s.i.toNat + n ≤ 4095) (hk : k ≤ n) :
    (s.writeBytes s.i.toNat bs).next.readMem (s.i.toNat + k) = bs[k] :=
  State.readMem_writeBytes_same s _ k bs hm _ (by omega)

end

theorem toNat_ofNat_byte {n : Nat} (h : n < 256) : (BitVec.ofNat 8 n).toNat = n := by
  rw [BitVec.toNat_ofNat, Nat.mod_eq_of_lt h]

/-- Settles O34: a block store of the three digits, each of which fits a byte. -/
theorem ldBStoresDecimalDigits : Obligations.LdBStoresDecimalDigits := by
  refine fun x s => ⟨fun hm hin => ?_, fun hout => ⟨_, exec_ldBVx_of_outOfBounds hout, faulted_raise _ s⟩⟩
  have hread := fun k (hk : k ≤ 2) => readMem_writeBytes_next (bs := bcdDigits (s.getV x)) hm rfl hin hk
  have := (s.getV x).isLt
  refine ⟨_, exec_ldBVx_of_inBounds hin, advanced_writeBytes_next s _ _, ?_, ?_, ?_, frame_writeBytes_next rfl _⟩
  · exact (congrArg _ (hread 0 (by decide))).trans (toNat_ofNat_byte (by omega))
  · exact (congrArg _ (hread 1 (by decide))).trans (toNat_ofNat_byte (by omega))
  · exact (congrArg _ (hread 2 (by decide))).trans (toNat_ofNat_byte (by omega))

/-- Settles O35: a block store of V0 to Vx. -/
theorem ldIVxStoresRegisterBlock : Obligations.LdIVxStoresRegisterBlock := by
  refine fun x s => ⟨fun hm hin => ?_, fun hout => ⟨_, exec_ldIVx_of_outOfBounds hout, faulted_raise _ s⟩⟩
  have hlen := registerBlock_length s x
  refine ⟨_, exec_ldIVx_of_inBounds hin, advanced_writeBytes_next s _ _, fun k hk => ?_, frame_writeBytes_next hlen _⟩
  exact (readMem_writeBytes_next hm hlen hin hk).trans (getElem_registerBlock s x k.val _)

/-- Settles O36: a block load of V0 to Vx. -/
theorem ldVxILoadsRegisterBlock : Obligations.LdVxILoadsRegisterBlock := by
  refine fun x s => ⟨fun hin => ?_, fun hout => ⟨_, exec_ldVxI_of_outOfBounds hout, faulted_raise _ s⟩⟩
  have hcount : x.val + 1 ≤ 16 := x.isLt
  refine ⟨_, exec_ldVxI_of_inBounds hin, ⟨congrArg (· + 2) (Effects.loadBlock_pc s _), rfl⟩, fun k hk => ?_, ?_⟩
  · exact (getV_loadBlock s _ hcount k).trans (if_pos (Nat.lt_succ_of_le hk))
  · refine frame_trans (frame_mono (frame_loadBlock s hcount) ?_) (frame_mono (frame_next _) fun _ => .inl)
    rintro p ⟨k, hk, rfl⟩
    exact .inr ⟨k, Nat.le_of_lt_succ hk, rfl⟩

/-- Settles O37: the two stored bytes are read back as the next opcode, and the machine still runs. -/
theorem storeIsSeenByNextFetch : Obligations.StoreIsSeenByNextFetch := by
  intro x a s t o i hm hrun hin hpc hover ha hexec ho hdis
  obtain ⟨⟨t', hexec', ⟨htpc, -⟩, hstored, hframe⟩, -⟩ := (ldIVxStoresRegisterBlock x s).imp_left fun h => h hm hin
  obtain rfl : t' = t := Host.Outcome.next.inj (hexec'.symm.trans hexec)
  have hrun' : t'.halted = false := (hframe .halted (by simp)).trans hrun
  have hnext : t'.pc.toNat = s.i.toNat + a.val := by
    rw [htpc]
    bv_omega
  have hlt : a.val < x.val := ha
  have hsucc : (a + 1).val = a.val + 1 := Fin.val_add_one_of_lt' (by omega)
  refine stepRunsDecodedInstruction t' o i hrun' (by omega) ?_ hdis
  rw [ho, opcodeNat, hnext, Nat.add_assoc, ← hsucc, hstored a (Nat.le_of_lt ha), hstored (a + 1) ?_]
  exact Fin.le_def.mpr (hsucc ▸ ha)

end Sys2Proof.IndexMemory

/-! The key test and the key wait (44_peripheral.md R273-R284). -/

namespace Sys2Proof.Peripheral

open Sys2Proof.Machine Sys2Proof.Flow Sys2Proof.Effects Sys2Proof.Frames

/-! ### SKP and SKNP -/

section
variable {s : State} {k : Byte}

theorem keyPressed_of_key (h : k.toNat ≤ 15) (m : Word) : keyPressed s k m = m.getLsbD k.toNat := if_pos h

theorem keyPressed_of_notPressed (h : 15 < k.toNat) (hp : s.cfg.keyOorPolicy = .notPressed) (m : Word) :
    keyPressed s k m = false := by
  rw [keyPressed, if_neg (Nat.not_le.mpr h), hp]

theorem keyPressed_of_draw (h : 15 < k.toNat) (hp : s.cfg.keyOorPolicy = .draw) (m : Word) :
    keyPressed s k m = s.pressedBit := by
  rw [keyPressed, if_neg (Nat.not_le.mpr h), hp]

end

theorem afterKeyTest_calls (s : State) (k : Byte) : (afterKeyTest s k).calls = .getKeys :: s.calls := by
  rw [afterKeyTest_eq]

/-- One mask is used up where the host answers, and a Boolean for a key above 15 under draw (R282). -/
theorem afterKeyTest_inputs (s : State) (x : Reg) : (afterKeyTest s (s.getV x)).inputs = inputsAfterKeyTest s x := by
  unfold afterKeyTest inputsAfterKeyTest
  split
  next hkey => simp [HostInputs.takeKeyMask_eq, Nat.not_lt.mpr hkey]
  next hkey =>
    cases hp : s.cfg.keyOorPolicy with
    | draw => simp [State.takePressedBit, HostInputs.takeKeyMask_eq, Nat.not_le.mp hkey]
    | notPressed => simp [HostInputs.takeKeyMask_eq]

/-- The key test followed by a skip: one call, its inputs, and PC. -/
theorem keyTest_skipIf (s : State) (x : Reg) (c : Bool) :
    ((afterKeyTest s (s.getV x)).skipIf c).calls = .getKeys :: s.calls ∧
      ((afterKeyTest s (s.getV x)).skipIf c).inputs = inputsAfterKeyTest s x ∧
      Frame (· ∈ [Part.pc, .outcome, .calls, .inputs]) s ((afterKeyTest s (s.getV x)).skipIf c) := by
  refine ⟨?_, ?_, frame_of_subset (frame_append (frame_afterKeyTest s _) (frame_skipIf _ c)) (by simp)⟩ <;>
    rw [State.skipIf_eq]
  · exact afterKeyTest_calls s _
  · exact afterKeyTest_inputs s x

/-- Settles O42: the Boolean is the key test's, and both instructions skip by it. -/
theorem keySkipsTestOneKey : Obligations.KeySkipsTestOneKey := by
  refine fun x s => ⟨keyPressed s (s.getV x) s.keyMask, fun h => keyPressed_of_key h _, fun pad hpad h => ?_,
    fun h hp => keyPressed_of_notPressed h hp _, fun h hp => keyPressed_of_draw h hp _, ?_, ?_⟩
  · rw [keyPressed_of_key h, (State.getKeys_attached s hpad).1]
  · exact ⟨_, rfl, advanced_skipIf (afterKeyTest_pc s _) Iff.rfl, keyTest_skipIf s x _⟩
  · exact ⟨_, rfl, advanced_skipIf_not (afterKeyTest_pc s _) (by simp), keyTest_skipIf s x _⟩

/-! ### The key wait -/

theorem exec_ldVxN (x : Reg) (s : State) : exec (.ldVxN x) s = .next (endKeyWait x s.keyPress s.waitKey) := rfl

theorem exec_ldVxN_of_none {s : State} (h : s.keyPress = none) (x : Reg) :
    exec (.ldVxN x) s = .next s.waitKey.retry := by
  rw [exec_ldVxN, h, endKeyWait]

theorem exec_ldVxN_of_key {s : State} {k : Fin 16} (h : s.keyPress = some k) (x : Reg) :
    exec (.ldVxN x) s = .next (s.waitKey.setV x (BitVec.ofNat 8 k.val)).next := by
  rw [exec_ldVxN, h, endKeyWait]

/-- Settles O43: one `waitKey()` call, and then a retry or a register write. -/
theorem keyWaitRetriesOrLoadsKey : Obligations.KeyWaitRetriesOrLoadsKey := by
  refine fun x s => ⟨fun pad hpad => (State.waitKey_attached s hpad).1, fun h => ?_, fun k h => ?_⟩
  · exact ⟨_, exec_ldVxN_of_none h x, rfl, rfl, State.takeKeyPress_eq s,
      frame_of_subset (frame_append (frame_waitKey s) (frame_retry _)) (by simp)⟩
  · refine ⟨_, exec_ldVxN_of_key h x, ?_, ⟨rfl, rfl⟩, rfl, State.takeKeyPress_eq s,
      frame_of_subset (frame_append (frame_append (frame_waitKey s) (frame_setV _ x _)) (frame_next _)) (by simp)⟩
    rw [State.next_getV, State.getV_setV_same, BitVec.toNat_ofNat, Nat.mod_eq_of_lt (by omega)]

end Sys2Proof.Peripheral

/-! The sound timer (45_timers.md R302) and the tick (60_exceptions.md R332). -/

namespace Sys2Proof.Timers

open Sys2Proof.Machine Sys2Proof.Frames Sys2Proof.Rules

theorem exec_ldStVx_of_pos {x : Reg} {s : State} (h : 0 < (s.getV x).toNat) :
    exec (.ldStVx x) s = .next ((s.setSt (s.getV x)).setSoundEnabled true).enableSound.next := if_pos h

/-- Settles O45: above 0 the instruction is the write, the latch and one `enableSound` call, and for 0 the write
alone. -/
theorem ldStEnablesSound : Obligations.LdStEnablesSound := by
  refine fun x s => ⟨fun h => ⟨_, exec_ldStVx_of_pos h, rfl, rfl, rfl, rfl, ⟨rfl, rfl⟩, ?_⟩, fun h => ?_⟩
  · exact frame_append (frame_append (frame_append (frame_setSt s _) (frame_setSoundEnabled _ true))
      (frame_enableSound _)) (frame_next _)
  · have hzero : s.getV x = 0 := BitVec.eq_of_toNat_eq h
    exact ⟨_, exec_ldStVx_of_zero hzero, hzero, ⟨rfl, rfl⟩, frame_append (frame_setSt s _) (frame_next _)⟩

/-! ### Ticks -/

theorem countDown_eq_zero_iff {b : Byte} : countDown b = 0 ↔ b.toNat ≤ 1 := by
  rw [← BitVec.toNat_inj, countDown_toNat]
  exact Nat.sub_eq_zero_iff_le

theorem tick_dt (s : State) : (tick s).dt = countDown s.dt := by
  obtain ⟨-, -, h⟩ | ⟨-, h⟩ := tick_cases s <;> rw [h]

theorem tick_st (s : State) : (tick s).st = countDown s.st := by
  obtain ⟨-, -, h⟩ | ⟨-, h⟩ := tick_cases s <;> rw [h]

/-- The tick that finds the sound at its end silences it. -/
theorem tick_of_done {s : State} (h : s.st.toNat ≤ 1 ∧ s.soundEnabled = true) :
    (tick s).soundEnabled = false ∧ (tick s).audible = false ∧ (tick s).calls = .disableSound :: s.calls := by
  obtain ⟨-, -, ht⟩ | ⟨hno, -⟩ := tick_cases s
  · rw [ht]
    exact ⟨rfl, rfl, rfl⟩
  · exact absurd ⟨countDown_eq_zero_iff.mpr h.1, h.2⟩ hno

/-- Any other tick counts down only. -/
theorem tick_of_not_done {s : State} (h : ¬ (s.st.toNat ≤ 1 ∧ s.soundEnabled = true)) :
    tick s = (s.setDt (countDown s.dt)).setSt (countDown s.st) := by
  obtain ⟨hst, hon, -⟩ | ⟨-, ht⟩ := tick_cases s
  · exact absurd ⟨countDown_eq_zero_iff.mp hst, hon⟩ h
  · exact ht

theorem frame_tick_of_not_done {s : State} (h : ¬ (s.st.toNat ≤ 1 ∧ s.soundEnabled = true)) :
    Frame (· ∈ [Part.dt, .st]) s (tick s) := by
  rw [tick_of_not_done h]
  intro p hp
  cases p with
  | dt | st => exact absurd (by simp) hp
  | _ => rfl

/-- Settles O46: both timers count down, and only the tick that ends the sound does more. -/
theorem tickCountsDownAndSilences : Obligations.TickCountsDownAndSilences := fun s =>
  ⟨by rw [tick_dt, countDown_toNat], by rw [tick_st, countDown_toNat], tick_of_done, frame_tick_of_not_done,
    frame_tick s⟩

theorem ticks_zero (s : State) : ticks 0 s = s := rfl

theorem ticks_succ (k : Nat) (s : State) : ticks (k + 1) s = ticks k (tick s) := by
  rw [ticks, List.replicate_succ]
  rfl

theorem tick_enableSound_count (s : State) : callCount .enableSound (tick s) = callCount .enableSound s := by
  by_cases h : s.st.toNat ≤ 1 ∧ s.soundEnabled = true
  · simp [callCount, (tick_of_done h).2.2]
  · rw [tick_of_not_done h]
    rfl

/-- Settles O47, by induction on the number of ticks: a tick that silences leaves the latch clear, so no later one
does. -/
theorem soundIsSilencedExactlyOnce : Obligations.SoundIsSilencedExactlyOnce := by
  intro k
  induction k with
  | zero => exact fun s => ⟨rfl, rfl, by simp [ticks_zero], rfl⟩
  | succ k ih =>
    intro s
    obtain ⟨hdt, hst, hoff, hon⟩ := ih (tick s)
    rw [ticks_succ]
    refine ⟨?_, ?_, ?_, hon.trans (tick_enableSound_count s)⟩
    · rw [hdt, tick_dt, countDown_toNat]
      omega
    · rw [hst, tick_st, countDown_toNat]
      omega
    · rw [hoff, tick_st, countDown_toNat]
      by_cases h : s.st.toNat ≤ 1 ∧ s.soundEnabled = true
      · obtain ⟨hlatch, -, hcalls⟩ := tick_of_done h
        rw [if_neg (by simp [hlatch]), if_pos ⟨h.2, by omega, by omega⟩, callCount, hcalls, List.count_cons_self]
        rfl
      · have hlatch : (tick s).soundEnabled = s.soundEnabled := by rw [tick_of_not_done h]; rfl
        have hcount : callCount .disableSound (tick s) = callCount .disableSound s := by rw [tick_of_not_done h]; rfl
        rw [hlatch, hcount]
        refine congrArg _ (if_congr (and_congr_right fun hon => ?_) rfl rfl)
        have hlong : 1 < s.st.toNat := Nat.lt_of_not_le fun hle => h ⟨hle, hon⟩
        omega

end Sys2Proof.Timers

/-! Load and the machine that is halted (70_reset_and_hazards.md R361; 60_exceptions.md R325-R327). -/

namespace Sys2Proof.HostOps

open Sys2Proof.Machine Sys2Proof.Cycle Sys2Proof.Frames

/-! ### Load -/

theorem load_of_tooLong {rom : List Byte} (h : 3584 < rom.length) (s : State) : load rom s = .refused .romTooLong :=
  if_pos h

theorem load_of_fits {rom : List Byte} (h : rom.length ≤ 3584) (s : State) : load rom s = .next (loadState rom s) :=
  if_neg (Nat.not_lt.mpr h)

/-- A load of no ROM: everything that a load clears, with memory as at power-on. -/
theorem loadState_eq_writeBytes (rom : List Byte) (s : State) :
    loadState rom s = (loadState [] s).writeBytes 0x200 rom := rfl

theorem memCanonical_loadState_nil (s : State) : MemCanonical (loadState [] s) := rfl

theorem readMem_loadState_nil (s : State) (a : Nat) :
    (loadState [] s).readMem a = if a < 80 then s.cfg.font.getD a 0 else 0 := rfl

theorem readMem_loadState {rom : List Byte} (h : rom.length ≤ 3584) (s : State) (a : Nat) :
    (loadState rom s).readMem a =
      if 0x200 ≤ a ∧ a < 0x200 + rom.length then rom.getD (a - 0x200) 0
      else if a < 80 then s.cfg.font.getD a 0 else 0 := by
  rw [loadState_eq_writeBytes, ← readMem_loadState_nil]
  split
  next hin =>
    obtain ⟨j, rfl⟩ := Nat.exists_eq_add_of_le hin.1
    have hj : j < rom.length := by omega
    rw [State.readMem_writeBytes_same _ _ _ _ (memCanonical_loadState_nil s) hj (by omega), Nat.add_sub_cancel_left,
      List.getD_eq_getElem _ _ hj]
  next hout => exact State.readMem_writeBytes_other _ _ _ _ (by omega)

/-- Settles O48: a load is the clearing of the machine and a block store of the ROM. -/
theorem loadResetsAndCopiesRom : Obligations.LoadResetsAndCopiesRom := by
  refine ⟨fun rom s hlong => ⟨load_of_tooLong hlong s, after_load_of_tooLong hlong s⟩, fun rom s hfits =>
    ⟨_, load_of_fits hfits s, fun a _ => readMem_loadState hfits s a, ?_⟩⟩
  rw [loadState_eq_writeBytes, State.writeBytes_eq]
  refine ⟨fun r => ?_, rfl, rfl, fun k => ?_, rfl, rfl, rfl, rfl, ?_⟩
  · exact Vector.getElem_replicate _
  · exact Vector.getElem_replicate _
  · simp only [List.forall_mem_cons]
    exact ⟨rfl, rfl, rfl, rfl, rfl, rfl, by simp⟩

/-! ### The halted machine -/

theorem halt_of_halted {s : State} (h : s.halted = true) : halt s = s := by
  rw [halt, ← h]

/-- No operation but a load makes a halted machine run or changes more than the timers and the sound. -/
theorem frame_after_of_halted {s : State} (h : s.halted = true) {op : HostOp} (hop : ∀ rom, op ≠ .load rom) :
    Frame (· ∈ [Part.dt, .st, .soundEnabled, .audible, .calls]) s (after op s) := by
  cases op with
  | step => rw [after_step_of_halted h]; exact frame_refl _ s
  | tick => exact frame_tick s
  | load rom => exact absurd rfl (hop rom)
  | halt =>
    change Frame _ s (halt s)
    rw [halt_of_halted h]
    exact frame_refl _ s

/-- Settles O51, by induction on the series: the frame of each operation keeps the machine halted for the next. -/
theorem haltedMachineIsFrozenUntilLoad : Obligations.HaltedMachineIsFrozenUntilLoad := by
  intro ops
  induction ops with
  | nil => exact fun s _ _ => frame_refl _ s
  | cons op rest ih =>
    intro s h hops
    have hop : ∀ rom, op ≠ .load rom := fun rom hrom => hops rom (hrom ▸ List.mem_cons_self)
    have hframe := frame_after_of_halted h hop
    have hhalted : (after op s).halted = true := (hframe .halted (by simp)).trans h
    exact frame_trans hframe (ih _ hhalted fun rom hmem => hops rom (List.mem_cons_of_mem op hmem))

/-- Settles O52: the values of the power-on state, in which memory lists no difference from the font and zeros. -/
theorem powerOnState : Obligations.PowerOnState :=
  ⟨rfl, rfl, rfl, rfl, by decide, by decide, rfl, rfl, rfl, fun _ _ => rfl⟩

end Sys2Proof.HostOps

/-! The decoder by class nibble (30_encoding.md R98-R103). All masks fix the class nibble, so the first match is found
among the rows of the opcode's class, and inside a class the low nibble or the low byte decides. -/

namespace Sys2Proof.Encoding

/-! ### The class nibble and the low fields as numbers -/

theorem class_toNat (o : Word) : (extract o 0xF000 12).toNat = o.toNat / 0x1000 := by
  have hlt : o.toNat / 0x1000 < 2 ^ 4 := by omega
  rw [extract, BitVec.toNat_ushiftRight, BitVec.toNat_and, Nat.shiftRight_and_distrib, Nat.shiftRight_eq_div_pow]
  exact (Nat.and_two_pow_sub_one_eq_mod _ 4).trans (Nat.mod_eq_of_lt hlt)

theorem fieldN_toNat (o : Word) : (fieldN o).toNat = o.toNat % 0x10 := by
  have h : (putN (fieldN o)).toNat = o.toNat % 0x10 := by
    rw [putN_fieldN, BitVec.toNat_and]
    exact Nat.and_two_pow_sub_one_eq_mod _ 4
  rwa [putN, BitVec.toNat_setWidth_of_le (by decide)] at h

theorem fieldNn_toNat (o : Word) : (fieldNn o).toNat = o.toNat % 0x100 := by
  have h : (putNn (fieldNn o)).toNat = o.toNat % 0x100 := by
    rw [putNn_fieldNn, BitVec.toNat_and]
    exact Nat.and_two_pow_sub_one_eq_mod _ 8
  rwa [putNn, BitVec.toNat_setWidth_of_le (by decide)] at h

/-- Two words have the same class nibble when their bits 15-12 agree. -/
theorem and_classMask_eq_iff {o p : Word} : o &&& 0xF000 = p &&& 0xF000 ↔ o.toNat / 0x1000 = p.toNat / 0x1000 := by
  have hback : ∀ w : Word, extract w 0xF000 12 <<< 12 = w &&& 0xF000 := fun w => by
    rw [extract]
    ext i hi
    interval_cases i <;> simp
  rw [← class_toNat, ← class_toNat, BitVec.toNat_inj]
  exact ⟨fun h => by rw [extract, extract, h], fun h => by rw [← hback o, h, hback p]⟩

/-! ### The rows of one class -/

/-- A mask in two parts asks for the pattern's bits in each. -/
theorem and_or_eq_iff {o p a b : Word} (hp : p &&& (a ||| b) = p) :
    o &&& (a ||| b) = p ↔ o &&& a = p &&& a ∧ o &&& b = p &&& b := by
  constructor
  · rintro rfl
    have ha : (a ||| b) &&& a = a := by ext i hi; simp +contextual
    have hb : (a ||| b) &&& b = b := by ext i hi; simp +contextual
    rw [BitVec.and_assoc, BitVec.and_assoc, ha, hb]
    exact ⟨rfl, rfl⟩
  · rintro ⟨ha, hb⟩
    rw [BitVec.and_or_distrib_left, ha, hb, ← BitVec.and_or_distrib_left, hp]

section
variable {e : TableRow} {o : Word} (he : e ∈ opcodeTable) (hc : o.toNat / 0x1000 = e.pattern.toNat / 0x1000)
include he hc

/-- In the class of an opcode a row that fixes the class nibble alone matches. -/
theorem matches_of_class (hm : e.mask = 0xF000) : e.matches o = true := by
  have hp : e.pattern &&& 0xF000 = e.pattern := hm ▸ pattern_and_mask e he
  rw [TableRow.matches_iff, hm, and_classMask_eq_iff.mpr hc, hp]

/-- In the class of an opcode a row that fixes the low nibble too matches by it. -/
theorem matches_iff_fieldN (hm : e.mask = 0xF00F) : e.matches o = true ↔ fieldN e.pattern = fieldN o := by
  have hp : e.pattern &&& (0xF000 ||| 0x000F) = e.pattern := by
    have := pattern_and_mask e he
    rwa [hm] at this
  rw [TableRow.matches_iff, hm]
  refine (and_or_eq_iff hp).trans ?_
  rw [and_iff_right (and_classMask_eq_iff.mpr hc), fieldN_eq_iff, putN_fieldN, eq_comm]

/-- In the class of an opcode a row that fixes the low byte too matches by it. -/
theorem matches_iff_fieldNn (hm : e.mask = 0xF0FF) : e.matches o = true ↔ fieldNn e.pattern = fieldNn o := by
  have hp : e.pattern &&& (0xF000 ||| 0x00FF) = e.pattern := by
    have := pattern_and_mask e he
    rwa [hm] at this
  rw [TableRow.matches_iff, hm]
  refine (and_or_eq_iff hp).trans ?_
  rw [and_iff_right (and_classMask_eq_iff.mpr hc), fieldNn_eq_iff, putNn_fieldNn, eq_comm]

end

/-- The rows of the opcode table with a class nibble. -/
def rowsOfClass (c : Nat) : List TableRow := opcodeTable.filter fun e => e.pattern.toNat / 0x1000 = c

theorem mem_rowsOfClass {c : Nat} {e : TableRow} :
    e ∈ rowsOfClass c ↔ e ∈ opcodeTable ∧ e.pattern.toNat / 0x1000 = c := by
  rw [rowsOfClass, List.mem_filter, decide_eq_true_iff]

theorem mask_and_classMask : ∀ e ∈ opcodeTable, e.mask &&& 0xF000 = 0xF000 := by decide

theorem class_eq_of_matches {e : TableRow} {o : Word} (he : e ∈ opcodeTable) (h : e.matches o = true) :
    e.pattern.toNat / 0x1000 = o.toNat / 0x1000 := by
  rw [← and_classMask_eq_iff, ← TableRow.matches_iff.mp h, BitVec.and_assoc, mask_and_classMask e he]

/-- Rows of another class never match. -/
theorem firstMatch_eq_class (o : Word) : firstMatch opcodeTable o = firstMatch (rowsOfClass (o.toNat / 0x1000)) o := by
  rw [firstMatch, firstMatch, rowsOfClass, List.find?_filter]
  refine List.find?_congr fun e he => ?_
  cases h : e.matches o with
  | false => simp
  | true => simp [class_eq_of_matches he h]

section
variable {c : Nat} {o : Word} (hc : o.toNat / 0x1000 = c)
include hc

theorem firstMatch_of_single {e : TableRow} (hrows : rowsOfClass c = [e]) (hm : e.mask = 0xF000) :
    firstMatch (rowsOfClass c) o = some e := by
  obtain ⟨he, hce⟩ := mem_rowsOfClass.mp (hrows ▸ List.mem_singleton_self e)
  rw [hrows]
  exact List.find?_cons_of_pos (matches_of_class he (hc.trans hce.symm) hm)

/-- Where the rows of a class fix the low nibble, it is the key to the class. -/
theorem firstMatch_eq_find_fieldN (hm : ∀ e ∈ rowsOfClass c, e.mask = 0xF00F) :
    firstMatch (rowsOfClass c) o =
      (rowsOfClass c).find? fun e => (fieldN e.pattern).toNat = (fieldN o).toNat := by
  refine List.find?_congr fun e he => ?_
  obtain ⟨ht, hce⟩ := mem_rowsOfClass.mp he
  rw [Bool.eq_iff_iff, matches_iff_fieldN ht (hc.trans hce.symm) (hm e he), decide_eq_true_iff, BitVec.toNat_inj]

/-- Where the rows of a class fix the low byte, it is the key to the class. -/
theorem firstMatch_eq_find_fieldNn (hm : ∀ e ∈ rowsOfClass c, e.mask = 0xF0FF) :
    firstMatch (rowsOfClass c) o =
      (rowsOfClass c).find? fun e => (fieldNn e.pattern).toNat = (fieldNn o).toNat := by
  refine List.find?_congr fun e he => ?_
  obtain ⟨ht, hce⟩ := mem_rowsOfClass.mp he
  rw [Bool.eq_iff_iff, matches_iff_fieldNn ht (hc.trans hce.symm) (hm e he), decide_eq_true_iff, BitVec.toNat_inj]

end

/-- A key that no element of a list has finds nothing in it. -/
theorem find?_eq_none_of_key {l : List TableRow} {key : TableRow → Nat} {keys : List Nat} (hkeys : l.map key = keys)
    {k : Nat} (hk : k ∉ keys) : l.find? (fun e => key e = k) = none := by
  refine List.find?_eq_none.mpr fun e he h => hk ?_
  rw [← hkeys, ← of_decide_eq_true h]
  exact List.mem_map_of_mem he

/-! ### Class by class -/

theorem firstMatch_class0 {o : Word} (hc : o.toNat / 0x1000 = 0x0) :
    (firstMatch (rowsOfClass 0x0) o).map (·.build o) =
      if o = 0x00E0 then some .cls else if o = 0x00EE then some .ret else some (.sysAddr (fieldNnn o)) := by
  split
  next h => rw [h]; rfl
  split
  next h => rw [h]; rfl
  next hcls hret =>
    have hmem : (TableRow.mk 0xF000 0x0000 fun w => .sysAddr (fieldNnn w)) ∈ opcodeTable :=
      List.mem_of_getElem? (i := 2) rfl
    have hfirst := firstMatch_eq_of_matches hcls hret hmem (matches_of_class hmem hc rfl)
    rw [firstMatch_eq_class, hc] at hfirst
    rw [hfirst]
    rfl

theorem decodeClass8_eq {o : Word} (hc : o.toNat / 0x1000 = 0x8) :
    decodeClass8 o = (firstMatch (rowsOfClass 0x8) o).map (·.build o) := by
  rw [firstMatch_eq_find_fieldN hc (by decide), decodeClass8]
  generalize (fieldN o).toNat = n
  split
  case h_10 =>
    rw [find?_eq_none_of_key (keys := [0, 1, 2, 3, 4, 5, 6, 7, 0xE]) rfl
      (by simp only [List.mem_cons, List.not_mem_nil]; tauto)]
    rfl
  all_goals rfl

theorem decodeClassF_eq {o : Word} (hc : o.toNat / 0x1000 = 0xF) :
    decodeClassF o = (firstMatch (rowsOfClass 0xF) o).map (·.build o) := by
  rw [firstMatch_eq_find_fieldNn hc (by decide), decodeClassF]
  generalize (fieldNn o).toNat = nn
  split
  case h_10 =>
    rw [find?_eq_none_of_key (keys := [0x07, 0x0A, 0x15, 0x18, 0x1E, 0x29, 0x33, 0x55, 0x65]) rfl
      (by simp only [List.mem_cons, List.not_mem_nil]; tauto)]
    rfl
  all_goals rfl

/-- The decoder by class answers what the first matching row builds. -/
theorem decodeByClass_eq_map (o : Word) :
    decodeByClass o = (firstMatch opcodeTable o).map (·.build o) := by
  have hlt : o.toNat / 0x1000 < 16 := by omega
  rw [firstMatch_eq_class, decodeByClass, class_toNat]
  generalize hc : o.toNat / 0x1000 = c at hlt
  match c with
  | 0x0 => exact (firstMatch_class0 hc).symm
  | 0x8 => exact decodeClass8_eq hc
  | 0xF => exact decodeClassF_eq hc
  | 0x5 | 0x9 =>
    rw [firstMatch_eq_find_fieldN hc (by decide)]
    change (if fieldN o = 0 then _ else _) = _
    split
    next h => rw [h]; rfl
    next h => rw [find?_eq_none_of_key (keys := [0]) rfl (by simpa [← BitVec.toNat_inj] using h)]; rfl
  | 0xE =>
    rw [firstMatch_eq_find_fieldNn hc (by decide)]
    change (if fieldNn o = 0x9E then _ else if fieldNn o = 0xA1 then _ else _) = _
    split
    next h => rw [h]; rfl
    split
    next h => rw [h]; rfl
    next h h' =>
      rw [find?_eq_none_of_key (keys := [0x9E, 0xA1]) rfl (by simpa [← BitVec.toNat_inj] using And.intro h h')]
      rfl
  | 0x1 | 0x2 | 0x3 | 0x4 | 0x6 | 0x7 | 0xA | 0xB | 0xC | 0xD =>
    exact congrArg (Option.map (TableRow.build · o)) (firstMatch_of_single hc rfl rfl).symm
  | c + 16 => omega

/-- Settles O3: both answer what the first matching row builds. -/
theorem firstMatchIsDecoderByClass : Obligations.FirstMatchIsDecoderByClass := by
  intro o i
  rw [disassemble_eq_ok_iff, decodeByClass_eq_map, Option.map_eq_some_iff]

theorem disassemble_eq_error_iff {o : Word} : disassemble o = .error (.lookupError o) ↔ decodeByClass o = none := by
  rw [decodeByClass_eq_map, Option.map_eq_none_iff, disassemble]
  cases firstMatch opcodeTable o <;> simp

theorem decodeClass8_eq_none_iff {o : Word} :
    decodeClass8 o = none ↔ (fieldN o).toNat ∈ [0x8, 0x9, 0xA, 0xB, 0xC, 0xD, 0xF] := by
  have hlt := (fieldN o).isLt
  unfold decodeClass8
  generalize (fieldN o).toNat = n at hlt
  interval_cases n <;> simp

theorem decodeClassF_eq_none_iff {o : Word} :
    decodeClassF o = none ↔ (fieldNn o).toNat ∉ [0x07, 0x0A, 0x15, 0x18, 0x1E, 0x29, 0x33, 0x55, 0x65] := by
  unfold decodeClassF
  split <;> simp_all

/-- Settles O4: the decoder by class, read off class by class. -/
theorem illegalOpcodesByClass : Obligations.IllegalOpcodesByClass := by
  intro o
  have hlt : o.toNat / 0x1000 < 16 := by omega
  rw [disassemble_eq_error_iff, decodeByClass, class_toNat, ← fieldN_toNat, ← fieldNn_toNat]
  generalize o.toNat / 0x1000 = c at hlt
  match c with
  | 0x0 =>
    change (if o = 0x00E0 then _ else if o = 0x00EE then _ else _) = none ↔ _
    split_ifs <;> simp
  | 0x8 => simpa using decodeClass8_eq_none_iff
  | 0xF => simpa using decodeClassF_eq_none_iff
  | 0x5 | 0x9 => simp [← BitVec.toNat_inj]
  | 0xE =>
    change (if fieldNn o = 0x9E then _ else if fieldNn o = 0xA1 then _ else _) = none ↔ _
    split_ifs <;> simp_all [← BitVec.toNat_inj]
  | 0x1 | 0x2 | 0x3 | 0x4 | 0x6 | 0x7 | 0xA | 0xB | 0xC | 0xD => simp
  | c + 16 => omega

/-! ### Overlap (R98) -/

/-- Only the row of SYS_ADDR matches the opcode of CLS or RET too. -/
theorem eq_two_of_matches_cls_ret : ∀ k < 35, ∀ b ∈ opcodeTable[k]?,
    (0 < k → b.matches 0x00E0 = true → k = 2) ∧ (1 < k → b.matches 0x00EE = true → k = 2) := by decide

theorem matches_full_iff {p o : Word} {b : Word → Instr} : (TableRow.mk 0xFFFF p b).matches o = true ↔ o = p :=
  TableRow.matches_iff.trans (iff_of_eq (congrArg (· = p) BitVec.and_allOnes))

/-- After the rows of CLS and RET no two rows match one opcode. -/
theorem not_both_match {j k : Nat} {a b : TableRow} {o : Word} (hj : 2 ≤ j) (hjk : j < k)
    (ha : opcodeTable[j]? = some a) (hb : opcodeTable[k]? = some b) (hma : a.matches o = true) :
    b.matches o = false := by
  refine Clash.matches_eq_false ?_ hma
  obtain ⟨hjl, rfl⟩ := List.getElem?_eq_some_iff.mp ha
  obtain ⟨hkl, rfl⟩ := List.getElem?_eq_some_iff.mp hb
  have hlen : opcodeTable.length = 35 := rfl
  have h := List.pairwise_iff_getElem.mp rows_clash (j - 2) (k - 2) (by simp; omega) (by simp; omega) (by omega)
  simpa [Nat.add_sub_cancel' hj, Nat.add_sub_cancel' (hj.trans hjk.le)] using h

/-- Settles O5: the rows of CLS and RET match one opcode each, which only the row of SYS_ADDR shares, and all other pairs
clash. -/
theorem onlyTwoPairsOverlap : Obligations.OnlyTwoPairsOverlap := by
  refine ⟨rfl, fun j k a b o hjk ha hb => ⟨fun ⟨hma, hmb⟩ => ?_, ?_⟩⟩
  · have hk : k < 35 := (List.getElem?_eq_some_iff.mp hb).1
    obtain ⟨hcls, hret⟩ := eq_two_of_matches_cls_ret k hk b hb
    match j with
    | 0 =>
      cases ha
      obtain rfl := matches_full_iff.mp hma
      exact ⟨hcls hjk hmb, .inl ⟨rfl, rfl⟩⟩
    | 1 =>
      cases ha
      obtain rfl := matches_full_iff.mp hma
      exact ⟨hret hjk hmb, .inr ⟨rfl, rfl⟩⟩
    | j + 2 =>
      rw [not_both_match (Nat.le_add_left 2 j) hjk ha hb hma] at hmb
      cases hmb
  · rintro ⟨rfl, ⟨rfl, rfl⟩ | ⟨rfl, rfl⟩⟩ <;> cases ha <;> cases hb <;> exact ⟨rfl, rfl⟩

/-- Settles O6: each word's first matching row is found by evaluation. -/
theorem wordsOfEachFamilyDecode : Obligations.WordsOfEachFamilyDecode := by
  exact ⟨rfl, rfl, rfl, rfl, rfl, rfl, rfl, rfl⟩

end Sys2Proof.Encoding

/-! The disassembler's text (30_encoding.md R104-R111). The text of an instruction can be assembled back, so no two
instructions share one. -/

namespace Sys2Proof.Disassembler

open Sys2Proof.Machine Sys2Proof.Encoding

/-! ### An assembler for the text of `format` -/

/-- The value of a hexadecimal digit. -/
def digitValue (c : Char) : Nat :=
  ['0', '1', '2', '3', '4', '5', '6', '7', '8', '9', 'A', 'B', 'C', 'D', 'E', 'F'].idxOf c

/-- The register with a digit as its number. -/
def readReg (c : Char) : Reg := Fin.ofNat 16 (digitValue c)

/-- The byte of two digits. -/
def readByte (a b : Char) : Byte := BitVec.ofNat 8 (digitValue a * 16 + digitValue b)

/-- The address of three digits. -/
def readAddr (a b c : Char) : Addr := BitVec.ofNat 12 ((digitValue a * 16 + digitValue b) * 16 + digitValue c)

/-- Two registers. -/
def readRegs (f : Reg → Reg → Instr) : List Char → Option Instr
  | ['V', x, ',', ' ', 'V', y] => some (f (readReg x) (readReg y))
  | _ => none

/-- A register, and a byte or a register. -/
def readRegOperand (f : Reg → Byte → Instr) (g : Reg → Reg → Instr) : List Char → Option Instr
  | ['V', x, ',', ' ', '0', 'x', a, b] => some (f (readReg x) (readByte a b))
  | text => readRegs g text

/-- The operands of LD. -/
def readLd : List Char → Option Instr
  | ['I', ',', ' ', '0', 'x', a, b, c] => some (.ldIAddr (readAddr a b c))
  | ['D', 'T', ',', ' ', 'V', x] => some (.ldDtVx (readReg x))
  | ['S', 'T', ',', ' ', 'V', x] => some (.ldStVx (readReg x))
  | ['F', ',', ' ', 'V', x] => some (.ldFVx (readReg x))
  | ['B', ',', ' ', 'V', x] => some (.ldBVx (readReg x))
  | ['[', 'I', ']', ',', ' ', 'V', x] => some (.ldIVx (readReg x))
  | ['V', x, ',', ' ', 'D', 'T'] => some (.ldVxDt (readReg x))
  | ['V', x, ',', ' ', 'K'] => some (.ldVxN (readReg x))
  | ['V', x, ',', ' ', '[', 'I', ']'] => some (.ldVxI (readReg x))
  | text => readRegOperand .ldVxNn .ldVxVy text

/-- The operands of ADD. -/
def readAdd : List Char → Option Instr
  | ['I', ',', ' ', 'V', x] => some (.addIVx (readReg x))
  | text => readRegOperand .addVxNn .addVxVy text

/-- The operands of JP. -/
def readJp : List Char → Option Instr
  | ['0', 'x', a, b, c] => some (.jpAddr (readAddr a b c))
  | ['V', '0', ',', ' ', '0', 'x', a, b, c] => some (.jpV0Addr (readAddr a b c))
  | _ => none

/-- The instruction that a text stands for. -/
def assemble : List Char → Option Instr
  | ['C', 'L', 'S'] => some .cls
  | ['R', 'E', 'T'] => some .ret
  | ['S', 'Y', 'S', ' ', '0', 'x', a, b, c] => some (.sysAddr (readAddr a b c))
  | 'J' :: 'P' :: ' ' :: text => readJp text
  | ['C', 'A', 'L', 'L', ' ', '0', 'x', a, b, c] => some (.callAddr (readAddr a b c))
  | 'S' :: 'E' :: ' ' :: text => readRegOperand .seVxNn .seVxVy text
  | 'S' :: 'N' :: 'E' :: ' ' :: text => readRegOperand .sneVxNn .sneVxVy text
  | 'L' :: 'D' :: ' ' :: text => readLd text
  | 'A' :: 'D' :: 'D' :: ' ' :: text => readAdd text
  | 'O' :: 'R' :: ' ' :: text => readRegs .orVxVy text
  | 'A' :: 'N' :: 'D' :: ' ' :: text => readRegs .andVxVy text
  | 'X' :: 'O' :: 'R' :: ' ' :: text => readRegs .xorVxVy text
  | 'S' :: 'U' :: 'B' :: ' ' :: text => readRegs .subVxVy text
  | 'S' :: 'H' :: 'R' :: ' ' :: text => readRegs .shrVxVy text
  | 'S' :: 'U' :: 'B' :: 'N' :: ' ' :: text => readRegs .subnVxVy text
  | 'S' :: 'H' :: 'L' :: ' ' :: text => readRegs .shlVxVy text
  | ['R', 'N', 'D', ' ', 'V', x, ',', ' ', '0', 'x', a, b] => some (.rndVxNn (readReg x) (readByte a b))
  | ['D', 'R', 'W', ' ', 'V', x, ',', ' ', 'V', y, ',', ' ', '0', 'x', n] =>
    some (.drwVxVyN (readReg x) (readReg y) (BitVec.ofNat 4 (digitValue n)))
  | ['S', 'K', 'P', ' ', 'V', x] => some (.skpVx (readReg x))
  | ['S', 'K', 'N', 'P', ' ', 'V', x] => some (.sknpVx (readReg x))
  | _ => none

theorem digitValue_hexDigit : ∀ n < 16, digitValue (hexDigit n) = n := by decide

@[simp] theorem readReg_hexDigit (x : Reg) : readReg (hexDigit x.val) = x := by
  rw [readReg, digitValue_hexDigit _ x.isLt]
  exact Fin.ofNat_val_eq_self x

theorem readByte_hexDigits (nn : Byte) :
    readByte (hexDigit (nn.toNat / 16 % 16)) (hexDigit (nn.toNat % 16)) = nn := by
  have := nn.isLt
  rw [readByte, digitValue_hexDigit _ (Nat.mod_lt _ (by decide)), digitValue_hexDigit _ (Nat.mod_lt _ (by decide))]
  refine BitVec.eq_of_toNat_eq ?_
  rw [BitVec.toNat_ofNat]
  omega

theorem readAddr_hexDigits (nnn : Addr) :
    readAddr (hexDigit (nnn.toNat / 16 / 16 % 16)) (hexDigit (nnn.toNat / 16 % 16)) (hexDigit (nnn.toNat % 16)) =
      nnn := by
  have := nnn.isLt
  rw [readAddr, digitValue_hexDigit _ (Nat.mod_lt _ (by decide)), digitValue_hexDigit _ (Nat.mod_lt _ (by decide)),
    digitValue_hexDigit _ (Nat.mod_lt _ (by decide))]
  refine BitVec.eq_of_toNat_eq ?_
  rw [BitVec.toNat_ofNat]
  omega

theorem readNibble_hexDigits (n : Nibble) : BitVec.ofNat 4 (digitValue (hexDigit (n.toNat % 16))) = n := by
  rw [digitValue_hexDigit _ (Nat.mod_lt _ (by decide)), Nat.mod_eq_of_lt n.isLt, BitVec.ofNat_toNat, BitVec.setWidth_eq]

/-- Assembling undoes formatting: the arm of the instruction's text reads its operands back. -/
theorem assemble_formatChars (i : Instr) : assemble (formatChars i) = some i := by
  cases i with
  | cls | ret => rfl
  | sysAddr nnn | jpAddr nnn | callAddr nnn | ldIAddr nnn | jpV0Addr nnn =>
    exact congrArg some (congrArg _ (readAddr_hexDigits nnn))
  | seVxNn x nn | sneVxNn x nn | ldVxNn x nn | addVxNn x nn | rndVxNn x nn =>
    exact congrArg some (congrArg₂ _ (readReg_hexDigit x) (readByte_hexDigits nn))
  | seVxVy x y | sneVxVy x y | ldVxVy x y | orVxVy x y | andVxVy x y | xorVxVy x y | addVxVy x y | subVxVy x y
  | shrVxVy x y | subnVxVy x y | shlVxVy x y =>
    exact congrArg some (congrArg₂ _ (readReg_hexDigit x) (readReg_hexDigit y))
  | drwVxVyN x y n =>
    exact congrArg some (congr (congrArg₂ _ (readReg_hexDigit x) (readReg_hexDigit y)) (readNibble_hexDigits n))
  | skpVx x | sknpVx x | ldVxDt x | ldVxN x | ldDtVx x | ldStVx x | addIVx x | ldFVx x | ldBVx x | ldIVx x | ldVxI x =>
    exact congrArg some (congrArg _ (readReg_hexDigit x))

theorem format_injective {i j : Instr} (h : format i = format j) : i = j := by
  have hchars : formatChars i = formatChars j := String.ofList_injective h
  have hsome := assemble_formatChars i
  rw [hchars, assemble_formatChars j] at hsome
  exact (Option.some.inj hsome).symm

/-- Settles O7: the text gives the instruction back, and the instruction its opcode. -/
theorem formatIsInjective : Obligations.FormatIsInjective := by
  intro o p i j ho hp h
  obtain ⟨-, hi, -⟩ := encodeOfDecode o i ho
  obtain ⟨-, hj, -⟩ := encodeOfDecode p j hp
  rw [← hi, ← hj, format_injective h]

/-! ### Dumps (R109, R110) -/

theorem dumpLines_cons_of_ok {o : Word} {i : Instr} (ho : disassemble o = .ok i) {k : Nat} {rest : List Word}
    {lines : List (List Char)} (h : dumpLines (k + 1) rest = .ok lines) :
    dumpLines k (o :: rest) = .ok (dumpLine k o i :: lines) := by
  rw [dumpLines, ho, h]

/-- Decodable opcodes from line k on give one line each. -/
theorem exists_dumpLines (os : List Word) (k : Nat) (hos : ∀ o ∈ os, ∃ i, disassemble o = .ok i) :
    ∃ lines, dumpLines k os = .ok lines ∧ lines.length = os.length ∧
      ∀ (n : Nat) (o : Word) (i : Instr), os[n]? = some o → disassemble o = .ok i →
        lines[n]? = some (dumpLine (k + n) o i) := by
  induction os generalizing k with
  | nil => exact ⟨[], rfl, rfl, fun n o i h => by simp at h⟩
  | cons p rest ih =>
    obtain ⟨j, hj⟩ := hos p List.mem_cons_self
    obtain ⟨lines, hlines, hlen, hline⟩ := ih (k + 1) fun o ho => hos o (List.mem_cons_of_mem p ho)
    refine ⟨_, dumpLines_cons_of_ok hj hlines, congrArg (· + 1) hlen, fun n o i hn ho => ?_⟩
    cases n with
    | zero =>
      obtain rfl : p = o := Option.some.inj hn
      obtain rfl : j = i := Except.ok.inj (hj.symm.trans ho)
      rfl
    | succ n =>
      rw [List.getElem?_cons_succ, hline n o i hn ho, Nat.add_assoc, Nat.add_comm 1 n]

/-- The first illegal opcode ends the dump. -/
theorem dumpLines_of_illegal {os rest : List Word} {o : Word} (k : Nat) (hos : ∀ p ∈ os, ∃ i, disassemble p = .ok i)
    (ho : disassemble o = .error (.lookupError o)) : dumpLines k (os ++ o :: rest) = .error (.lookupError o) := by
  induction os generalizing k with
  | nil => rw [List.nil_append, dumpLines, ho]
  | cons p os ih =>
    obtain ⟨j, hj⟩ := hos p List.mem_cons_self
    rw [List.cons_append, dumpLines, hj, ih (k + 1) fun q hq => hos q (List.mem_cons_of_mem p hq)]

/-- Settles O8, by induction on the opcodes that decode. -/
theorem dumpIsTextOrFirstLookupError : Obligations.DumpIsTextOrFirstLookupError := by
  refine ⟨fun os hos => ?_, fun os rest o hos ho => ?_⟩
  · obtain ⟨lines, hlines, hlen, hline⟩ := exists_dumpLines os 0 hos
    refine ⟨lines, hlines, hlen, by rw [dump, dumpChars, hlines], fun k o i hk ho => ?_⟩
    rw [hline k o i hk ho, Nat.zero_add]
    rfl
  · rw [dump, dumpChars, dumpLines_of_illegal 0 hos ho]

end Sys2Proof.Disassembler

/-! Sprites (44_peripheral.md R281). On a display no smaller than a sprite the calls of one DRW go to different pixels, so
each call meets the display as it was before the instruction. -/

namespace Sys2Proof.Peripheral

open Sys2Proof.Machine Sys2Proof.Cycle Sys2Proof.Flow Sys2Proof.Effects Sys2Proof.Frames Sys2Proof.IndexMemory

/-! ### The places of a sprite -/

/-- No two pixels of the list have the same place on the display, and each has its column inside the width. -/
def DistinctPlaces (s : State) (ps : List SpritePixel) : Prop :=
  (∀ p ∈ ps, p.x < s.cfg.displayW) ∧ ps.Pairwise fun p q => (p.x, p.y) ≠ (q.x, q.y)

/-- Offsets below the modulus stay apart. -/
theorem add_mod_inj {a w c d : Nat} (hc : c < w) (hd : d < w) (h : (a + c) % w = (a + d) % w) : c = d := by
  have hcd : c ≡ d [MOD w] := Nat.ModEq.add_left_cancel' a h
  rwa [Nat.ModEq, Nat.mod_eq_of_lt hc, Nat.mod_eq_of_lt hd] at hcd

theorem distinctPlaces_spritePixels {s : State} (hfits : spriteFits s) (x0 y0 : Nat) {n : Nat} (hn : n ≤ 15) :
    DistinctPlaces s (spritePixels s x0 y0 n) := by
  obtain ⟨hw, hh⟩ := hfits
  constructor
  · intro p hp
    obtain ⟨r, -, c, -, rfl⟩ := mem_spritePixels.mp hp
    exact Nat.mod_lt _ (by omega)
  · refine List.pairwise_flatMap.mpr ⟨fun r _ => ?_, ?_⟩
    · refine List.pairwise_map.mpr (List.pairwise_lt_range.imp_of_mem fun {c d} hc hd hlt heq => hlt.ne ?_)
      rw [List.mem_range] at hc hd
      exact add_mod_inj (by omega) (by omega) (Prod.ext_iff.mp heq).1
    · refine List.pairwise_lt_range.imp_of_mem fun {r q} hr hq hlt p hp p' hp' heq => hlt.ne ?_
      rw [List.mem_range] at hr hq
      obtain ⟨c, -, rfl⟩ := List.mem_map.mp hp
      obtain ⟨d, -, rfl⟩ := List.mem_map.mp hp'
      exact add_mod_inj (by omega) (by omega) (Prod.ext_iff.mp heq).2

/-! ### A series of pixel calls -/

theorem pixel_drawPixels_of_not_place {s : State} {ps : List SpritePixel} {x y : Nat}
    (hin : ∀ p ∈ ps, p.x < s.cfg.displayW) (hx : x < s.cfg.displayW) (hne : ∀ p ∈ ps, (x, y) ≠ (p.x, p.y)) :
    (s.drawPixels ps).pixel x y = s.pixel x y := by
  induction ps generalizing s with
  | nil => rfl
  | cons p rest ih =>
    rw [List.forall_mem_cons] at hin hne
    exact (ih (s := s.drawPixel p.x p.y p.value) hin.2 hx hne.2).trans (pixel_drawPixel_other p.value hin.1 hx hne.1)

theorem DistinctPlaces.of_cons {s : State} {q : SpritePixel} {ps : List SpritePixel} (h : DistinctPlaces s (q :: ps)) :
    q.x < s.cfg.displayW ∧ (∀ p ∈ ps, (q.x, q.y) ≠ (p.x, p.y)) ∧
      DistinctPlaces (s.drawPixel q.x q.y q.value) ps := by
  obtain ⟨hin, hpair⟩ := h
  rw [List.forall_mem_cons] at hin
  rw [List.pairwise_cons] at hpair
  exact ⟨hin.1, hpair.1, hin.2, hpair.2⟩

/-- A call on one place of the list leaves the pixels at the others. -/
theorem DistinctPlaces.pixel_drawPixel {s : State} {q : SpritePixel} {ps : List SpritePixel}
    (h : DistinctPlaces s (q :: ps)) {p : SpritePixel} (hp : p ∈ ps) :
    (s.drawPixel q.x q.y q.value).pixel p.x p.y = s.pixel p.x p.y := by
  obtain ⟨hq, hne, hrest⟩ := h.of_cons
  exact pixel_drawPixel_other q.value hq (hrest.1 p hp) (hne p hp).symm

theorem pixel_drawPixels_of_place {s : State} {ps : List SpritePixel} (hd : DistinctPlaces s ps) {p : SpritePixel}
    (hp : p ∈ ps) : (s.drawPixels ps).pixel p.x p.y = (s.pixel p.x p.y ^^ p.value) := by
  induction ps generalizing s with
  | nil => cases hp
  | cons q rest ih =>
    obtain ⟨hq, hne, hrest⟩ := hd.of_cons
    rw [State.drawPixels]
    rcases List.mem_cons.mp hp with rfl | hp
    · rw [pixel_drawPixels_of_not_place hrest.1 hq hne, pixel_drawPixel_same]
    · rw [ih hrest hp, hd.pixel_drawPixel hp]

theorem anyCollides_iff {s : State} {ps : List SpritePixel} (hd : DistinctPlaces s ps) :
    s.anyCollides ps = true ↔ ∃ p ∈ ps, p.value = true ∧ s.pixel p.x p.y = true := by
  induction ps generalizing s with
  | nil => simp [State.anyCollides]
  | cons q rest ih =>
    obtain ⟨-, -, hrest⟩ := hd.of_cons
    rw [State.anyCollides, Bool.or_eq_true, ih hrest, State.collides, Bool.and_eq_true, List.exists_mem_cons_iff,
      and_comm]
    exact or_congr_right (exists_congr fun p => and_congr_right fun hp => by rw [hd.pixel_drawPixel hp])

/-- What a series of pixel calls XORs into the display. -/
def drawMask (s : State) : List SpritePixel → Nat
  | [] => 0
  | p :: rest => p.value.toNat <<< s.pixelIndex p.x p.y ^^^ drawMask s rest

theorem drawMask_congr {s t : State} (h : t.cfg = s.cfg) (ps : List SpritePixel) : drawMask t ps = drawMask s ps := by
  induction ps with
  | nil => rfl
  | cons p rest ih => rw [drawMask, drawMask, ih, State.pixelIndex, State.pixelIndex, h]

theorem drawPixels_display (s : State) (ps : List SpritePixel) :
    (s.drawPixels ps).display = s.display ^^^ drawMask s ps := by
  induction ps generalizing s with
  | nil => rw [drawMask, Nat.xor_zero]; rfl
  | cons p rest ih =>
    rw [State.drawPixels, ih, drawMask_congr (State.drawPixel_cfg s _ _ _), State.drawPixel_display, Nat.xor_assoc,
      drawMask]

/-! ### DRW -/

/-- The pixels of the sprite that DRW draws. -/
def spriteAt (s : State) (x y : Reg) (n : Nibble) : List SpritePixel :=
  spritePixels s (s.getV x).toNat (s.getV y).toNat n.toNat

/-- The machine after the calls for a sprite, with the flag written and PC moved on. -/
def afterDraw (s : State) (ps : List SpritePixel) : State :=
  ((s.drawPixels ps).setV Reg.vf (flagByte (s.anyCollides ps))).next

section
variable {x y : Reg} {n : Nibble} {s : State}

theorem exec_drw_of_inBounds (h : s.i.toNat + n.toNat ≤ 4095) :
    exec (.drwVxVyN x y n) s = .next (afterDraw s (spriteAt s x y n)) := if_pos (iInBounds_iff.mpr h)

theorem exec_drw_of_outOfBounds (h : s.i.toNat + n.toNat > 4095) :
    exec (.drwVxVyN x y n) s = .next (s.raise (.memoryOutOfBounds s.i s.pc)) := if_neg (not_iInBounds h)

theorem mem_spriteAt {p : SpritePixel} : p ∈ spriteAt s x y n ↔ ∃ r < n.toNat, ∃ c < 8,
    p = ⟨((s.getV x).toNat + c) % s.cfg.displayW, ((s.getV y).toNat + r) % s.cfg.displayH, spriteBit s r c⟩ :=
  mem_spritePixels

/-- A pixel of the sprite is set when a bit of it is. -/
theorem exists_spriteAt_value_iff : (∃ p ∈ spriteAt s x y n, p.value = true) ↔
    ∃ r < n.toNat, ∃ c < 8, spriteBit s r c = true := by
  constructor
  · rintro ⟨p, hp, hvalue⟩
    obtain ⟨r, hr, c, hc, rfl⟩ := mem_spriteAt.mp hp
    exact ⟨r, hr, c, hc, hvalue⟩
  · rintro ⟨r, hr, c, hc, hbit⟩
    exact ⟨_, mem_spriteAt.mpr ⟨r, hr, c, hc, rfl⟩, hbit⟩

theorem distinctPlaces_spriteAt (hfits : spriteFits s) : DistinctPlaces s (spriteAt s x y n) :=
  distinctPlaces_spritePixels hfits _ _ (Nat.le_of_lt_succ n.isLt)

end

theorem pixel_afterDraw (s : State) (ps : List SpritePixel) (px py : Nat) :
    (afterDraw s ps).pixel px py = (s.drawPixels ps).pixel px py := rfl

theorem display_afterDraw (s : State) (ps : List SpritePixel) :
    (afterDraw s ps).display = s.display ^^^ drawMask s ps := drawPixels_display s ps

theorem vf_afterDraw (s : State) (ps : List SpritePixel) :
    (afterDraw s ps).getV Reg.vf = flagByte (s.anyCollides ps) := State.getV_setV_same _ _ _

theorem calls_afterDraw (s : State) (ps : List SpritePixel) :
    (afterDraw s ps).calls = (ps.map fun p => PeripheralCall.drawPixel p.x p.y p.value).reverse ++ s.calls :=
  congrArg State.calls (State.drawPixels_eq s ps)

theorem frame_afterDraw (s : State) (ps : List SpritePixel) :
    Frame (· ∈ [Part.v Reg.vf, .pc, .outcome, .display, .calls]) s (afterDraw s ps) :=
  frame_of_subset (frame_append (frame_append (frame_drawPixels s ps) (frame_setV _ _ _)) (frame_next _)) (by simp)

theorem advanced_afterDraw (s : State) (ps : List SpritePixel) : Advanced 2 s (afterDraw s ps) :=
  ⟨congrArg (· + 2) (drawPixels_pc s ps), rfl⟩

theorem flagByte_eq_one_iff {c : Bool} : flagByte c = 1 ↔ c = true := by cases c <;> decide

theorem flagByte_eq_zero_iff {c : Bool} : flagByte c = 0 ↔ c = false := by cases c <;> decide

/-- Settles O40: the places of the calls are distinct, so each call's effect and answer are those on the display before
the instruction. -/
theorem drwXorsWrappedSprite : Obligations.DrwXorsWrappedSprite := by
  refine fun x y n s hfits => ⟨fun hin => ?_, fun hout => ⟨_, exec_drw_of_outOfBounds hout, faulted_raise _ s⟩⟩
  have hd : DistinctPlaces s (spriteAt s x y n) := distinctPlaces_spriteAt hfits
  refine ⟨_, exec_drw_of_inBounds hin, advanced_afterDraw s _, ?_, fun r hr c hc => ?_, fun px py hpx hne => ?_, ?_, ?_,
    frame_afterDraw s _⟩
  · rw [calls_afterDraw, spriteAt, spritePixels, List.map_flatMap]
    simp only [spriteRow, List.map_map, Function.comp_def, spriteBit]
  · have hxor := pixel_drawPixels_of_place hd (mem_spriteAt.mpr ⟨r, hr, c, hc, rfl⟩)
    rw [pixel_afterDraw]
    exact hxor
  · refine pixel_drawPixels_of_not_place hd.1 hpx fun p hp => ?_
    obtain ⟨r, hr, c, hc, rfl⟩ := mem_spriteAt.mp hp
    exact hne r hr c hc
  · rintro ⟨r, hr, c, hc, hbit, hpixel⟩
    rw [vf_afterDraw, flagByte_eq_one_iff, anyCollides_iff hd]
    exact ⟨_, mem_spriteAt.mpr ⟨r, hr, c, hc, rfl⟩, hbit, hpixel⟩
  · intro hclear
    rw [vf_afterDraw, flagByte_eq_zero_iff, Bool.eq_false_iff, Ne, anyCollides_iff hd]
    rintro ⟨p, hp, hbit, hpixel⟩
    obtain ⟨r, hr, c, hc, rfl⟩ := mem_spriteAt.mp hp
    rw [hclear r hr c hc hbit] at hpixel
    cases hpixel

/-- A draw at registers other than VF leaves everything that the sprite depends on. -/
theorem spriteAt_afterDraw {x y : Reg} (hx : x ≠ Reg.vf) (hy : y ≠ Reg.vf) (n : Nibble) (s : State)
    (ps : List SpritePixel) : spriteAt (afterDraw s ps) x y n = spriteAt s x y n := by
  have hframe := frame_afterDraw s ps
  have hvx : (afterDraw s ps).getV x = s.getV x := hframe (.v x) (by simp [hx])
  have hvy : (afterDraw s ps).getV y = s.getV y := hframe (.v y) (by simp [hy])
  have hi : (afterDraw s ps).i = s.i := hframe .i (by simp)
  have hcfg : (afterDraw s ps).cfg = s.cfg := hframe .cfg (by simp)
  have hmem : ∀ a, (afterDraw s ps).readMem a = s.readMem a := fun a => hframe (.mem a) (by simp)
  simp only [spriteAt, spritePixels, spriteRow, hvx, hvy, hi, hcfg, hmem]

/-- On a clear display a sprite meets no set pixel. -/
theorem anyCollides_of_clear {s : State} {ps : List SpritePixel} (hd : DistinctPlaces s ps) (hclear : s.display = 0) :
    s.anyCollides ps = false := by
  rw [Bool.eq_false_iff, Ne, anyCollides_iff hd]
  rintro ⟨p, -, -, hpixel⟩
  simp [State.pixel, hclear] at hpixel

/-- Drawn again after a draw on a clear display, a sprite meets exactly its own set bits. -/
theorem anyCollides_afterDraw_of_clear {s : State} {ps : List SpritePixel} (hd : DistinctPlaces s ps)
    (hclear : s.display = 0) : (afterDraw s ps).anyCollides ps = true ↔ ∃ p ∈ ps, p.value = true := by
  have hcfg : (afterDraw s ps).cfg = s.cfg := frame_afterDraw s ps .cfg (by simp)
  have hd' : DistinctPlaces (afterDraw s ps) ps := by rwa [DistinctPlaces, hcfg]
  rw [anyCollides_iff hd']
  refine exists_congr fun p => and_congr_right fun hp => ?_
  have hpixel : (afterDraw s ps).pixel p.x p.y = p.value := by
    rw [pixel_afterDraw, pixel_drawPixels_of_place hd hp]
    simp [State.pixel, hclear]
  rw [hpixel, and_self]

/-- Settles O41: the second draw XORs the same mask into the display, and on a display that was clear it finds the
sprite itself. -/
theorem drwTwiceCancels : Obligations.DrwTwiceCancels := by
  intro x y n s t u hx hy hin ht hu
  obtain rfl : afterDraw s (spriteAt s x y n) = t := Host.Outcome.next.inj ((exec_drw_of_inBounds hin).symm.trans ht)
  have hframe := frame_afterDraw s (spriteAt s x y n)
  have hi : (afterDraw s (spriteAt s x y n)).i = s.i := hframe .i (by simp)
  have hcfg : (afterDraw s (spriteAt s x y n)).cfg = s.cfg := hframe .cfg (by simp)
  obtain rfl := Host.Outcome.next.inj ((exec_drw_of_inBounds (by rwa [hi])).symm.trans hu)
  rw [spriteAt_afterDraw hx hy]
  refine ⟨?_, fun hfits hclear => ?_⟩
  · rw [display_afterDraw, drawMask_congr hcfg, display_afterDraw, Nat.xor_assoc, Nat.xor_self, Nat.xor_zero]
  · have hd : DistinctPlaces s (spriteAt s x y n) := distinctPlaces_spriteAt hfits
    have hagain : (afterDraw s (spriteAt s x y n)).anyCollides (spriteAt s x y n) = true ↔
        ∃ r < n.toNat, ∃ c < 8, spriteBit s r c = true := by
      rw [anyCollides_afterDraw_of_clear hd hclear, exists_spriteAt_value_iff]
    refine ⟨?_, ?_, ?_⟩
    · rw [vf_afterDraw, flagByte_eq_zero_iff, anyCollides_of_clear hd hclear]
    · rw [vf_afterDraw, flagByte_eq_one_iff, hagain]
    · rw [vf_afterDraw, flagByte_eq_zero_iff, Bool.eq_false_iff, Ne, hagain]
      simp

end Sys2Proof.Peripheral
